-- ==== Sys2Proof/Word.lean ====
section
/-! DEFINITION. The value types of BTNCORE: the words the spec gives a width to, the two channels, and a pair indexed by channel. -/

namespace Sys2Proof

/-- The digit, a number below 10 (R15, R51; `92_eei_decisions.md` D7 asks a model for a type with exactly ten values). -/
abbrev Digit := Fin 10

/-- The input vector `in[2:0] = {rst, btn_n[1], btn_n[0]}` of one step (R53). -/
abbrev InputVec := BitVec 3

/-- The event word `ev[8:0]` (R55, R64). -/
abbrev EventWord := BitVec 9

/-- One entry of `GLYPH`: pixel `p` on bit `p` (R37, R52). -/
abbrev GlyphWord := BitVec 25

/-- A 24-bit colour word (R38). -/
abbrev ColorWord := BitVec 24

/-- The 6-bit debounce counter (R16). -/
abbrev DbCount := BitVec 6

/-- The 7-bit blink counter (R17). -/
abbrev BlinkCount := BitVec 7

/-- The 200-bit silence delay line (R18); `sil[k]` of the spec is bit `k - 1` here (log 16). -/
abbrev SilenceLine := BitVec 200

/-- The two button channels (R7, R49). -/
inductive Channel where
  | inc
  | dec
deriving DecidableEq, Repr

/-- The channel's number: Increment 0, Decrement 1 (R49). -/
def Channel.index : Channel → Nat
  | .inc => 0
  | .dec => 1

/-- A per-channel state field `x`, whose elements `x[Inc]` and `x[Dec]` the rules write `x[ch]` (R12). -/
structure PerChannel (α : Type) where
  inc : α
  dec : α
deriving DecidableEq, Repr

/-- `x[ch]` (R12). -/
def PerChannel.get {α : Type} (x : PerChannel α) : Channel → α
  | .inc => x.inc
  | .dec => x.dec

/-- `x[ch] <- v` (R12). -/
def PerChannel.set {α : Type} (x : PerChannel α) : Channel → α → PerChannel α
  | .inc, v => { x with inc := v }
  | .dec, v => { x with dec := v }

end Sys2Proof
end

