-- ==== Sys2Proof/Config.lean ====
section
/-! DEFINITION. The parameters of `00_scope.md` section 4 and the free values: the open tables and the environment's inputs. -/

namespace Sys2Proof.Config

/-- `T_DEBOUNCE`, steps from an accepted edge to its confirmation (R6; log 10). -/
def tDebounce : Nat := 50

/-- `T_SILENCE`, steps from a confirmed press to its `SILENCE` (R6; log 10). -/
def tSilence : Nat := 200

/-- `T_BLINK`, the blink period in steps (R6; log 10). -/
def tBlink : Nat := 100

/-- `COLOR_ON` (R7, R38). -/
def colorOn : ColorWord := 0xFFFFFF#24

/-- `COLOR_OFF` (R7, R38). -/
def colorOff : ColorWord := 0x000000#24

/-- `DUTY`, in percent; a constant of the interface, neither a port nor state (R7, R102). -/
def dutyPercent : Nat := 50

/-- `DIGIT_RESET` (R31; `92_eei_decisions.md` D16). -/
def digitReset : Digit := 0

/-- The free content of the glyph table. The ten entries of `GLYPH` are the images of 0 to 9 under this permutation of the
25-bit words: a table is of this form exactly when its entries are pairwise different, the one constraint of R8 (log 7). -/
opaque glyphPerm : Equiv.Perm GlyphWord

/-- `GLYPH` (R8, R33): open but for being injective. -/
def glyph (d : Digit) : GlyphWord := glyphPerm (BitVec.ofNat 25 d.val)

/-- `FREQ_W`, the open width of a frequency (R9; log 8). -/
opaque freqW : Nat

/-- `TONE` (R9, R33, R39): open and unconstrained (log 8). -/
opaque tone : Digit → BitVec freqW

/-- The input vector the environment applies at a tick for which the state's `stimulus` lists none (R48, D27; log 2). -/
opaque environment : Nat → InputVec

end Sys2Proof.Config
end

