-- ==== Sys2Proof/Syntax.lean ====
section
/-! DEFINITION. The eleven operations of the opcode table, and the bundle of operations one event word selects. -/

namespace Sys2Proof

/-- The operations of BTNCORE (R61): one constructor per row of `opcode_table.json`, in its order. No row has an operand
field: the channel is fixed by the mnemonic, and the line levels `LI` and `LD` a row tests are part of its encoding. -/
inductive Instr where
  /-- `RESET` (R124) -/
  | reset
  /-- `ADVANCE` (R69) -/
  | advance
  /-- `EDGE.INC` (R74) -/
  | edgeInc
  /-- `EDGE.DEC` (R75) -/
  | edgeDec
  /-- `SILENCE` (R104) -/
  | silence
  /-- `BLINK` (R109) -/
  | blink
  /-- `PRESS.INC` (R89) -/
  | pressInc
  /-- `REJECT.INC` (R82) -/
  | rejectInc
  /-- `PRESS.DEC` (R90) -/
  | pressDec
  /-- `REJECT.DEC` (R83) -/
  | rejectDec
  /-- `IDLE` (R70) -/
  | idle
deriving DecidableEq, Repr

/-- The operations one event word selects, in the order they are performed (R61, R67). -/
abbrev Bundle := List Instr

end Sys2Proof
end

