-- ==== Sys2Proof/WellFormed.lean ====
section
/-! DEFINITION. Which operations and which bundles of operations are well formed. -/

namespace Sys2Proof

/-- Every operation is well formed by itself: none has an operand field (R61). -/
def Instr.wf : Instr → Bool
  | .reset => true
  | .advance => true
  | .edgeInc => true
  | .edgeDec => true
  | .silence => true
  | .blink => true
  | .pressInc => true
  | .rejectInc => true
  | .pressDec => true
  | .rejectDec => true
  | .idle => true

/-- An operation's place in the order of R67. The four confirmations share one place: one of them at most is performed. -/
def Instr.rank : Instr → Nat
  | .reset => 0
  | .advance => 1
  | .edgeInc => 2
  | .edgeDec => 3
  | .silence => 4
  | .blink => 5
  | .pressInc => 6
  | .rejectInc => 6
  | .pressDec => 6
  | .rejectDec => 6
  | .idle => 7

/-- A reset step performs `RESET` and nothing else (R61, R66). -/
def Bundle.resetAlone (b : Bundle) : Bool := !b.contains .reset || decide (b = [.reset])

/-- A step that is no reset begins with `ADVANCE` (R61, R66). -/
def Bundle.advanceFirst (b : Bundle) : Bool := b.contains .reset || decide (b.head? = some .advance)

/-- The operations stand in the order of R67, none twice, and at most one confirmation among them (R58, R67). -/
def Bundle.inOrder (b : Bundle) : Bool := decide (b.Pairwise fun i j => i.rank < j.rank)

/-- `IDLE` is selected exactly when nothing stands beside `ADVANCE` (R61, R70). -/
def Bundle.idleExactlyAlone (b : Bundle) : Bool :=
  (!b.contains .idle || decide (b = [.advance, .idle])) && decide (b ≠ [.advance])

/-- An accepted edge never shares a step with a confirmation of its own channel (R62, R68). -/
def Bundle.noEdgeWithOwnConfirmation (b : Bundle) : Bool :=
  !(b.contains .edgeInc && (b.contains .pressInc || b.contains .rejectInc)) &&
  !(b.contains .edgeDec && (b.contains .pressDec || b.contains .rejectDec))

/-- The bundles that a legal event word can select. -/
def Bundle.wf (b : Bundle) : Bool :=
  b.all Instr.wf && b.resetAlone && b.advanceFirst && b.inOrder && b.idleExactlyAlone && b.noEdgeWithOwnConfirmation

/-- The line levels `LD` and `LI` agree with the bundle: a press or an accepted edge needs its line at 0, a rejection needs
it at 1 (R57, R61, R62). -/
def Bundle.fitsLevels (b : Bundle) (ld li : Bool) : Bool :=
  (!(b.contains .edgeInc || b.contains .pressInc) || !li) && (!b.contains .rejectInc || li) &&
  (!(b.contains .edgeDec || b.contains .pressDec) || !ld) && (!b.contains .rejectDec || ld)

end Sys2Proof
end

