-- ==== Sys2Proof/Decode.lean ====
section
/-! DEFINITION. The input vector's and the event word's bits, decoding of an event word into the bundle it selects, and the encoder. -/

namespace Sys2Proof

/-- `rst`, bit 2 of the input vector (R53). -/
def InputVec.rst (v : InputVec) : Bool := v.getLsbD 2

/-- `btn_n[ch]`, bit 0 for Increment and bit 1 for Decrement; 0 is asserted (R52, R53). -/
def InputVec.line (v : InputVec) (ch : Channel) : Bool := v.getLsbD ch.index

/-- The event word with the given bits, most significant first: `RST ED EI SF BF CD CI LD LI` (R55). -/
def EventWord.pack (rst ed ei sf bf cd ci ld li : Bool) : EventWord :=
  BitVec.ofBool rst ++ BitVec.ofBool ed ++ BitVec.ofBool ei ++ BitVec.ofBool sf ++ BitVec.ofBool bf ++
    BitVec.ofBool cd ++ BitVec.ofBool ci ++ BitVec.ofBool ld ++ BitVec.ofBool li

/-- `RST` (R55, R56). -/
def EventWord.rst (ev : EventWord) : Bool := ev.getLsbD 8

/-- `EI` or `ED`, at `6 + ch` (R55, R57). -/
def EventWord.edge (ev : EventWord) (ch : Channel) : Bool := ev.getLsbD (6 + ch.index)

/-- `SF` (R55, R59). -/
def EventWord.silenceFires (ev : EventWord) : Bool := ev.getLsbD 5

/-- `BF` (R55, R60). -/
def EventWord.blinkFires (ev : EventWord) : Bool := ev.getLsbD 4

/-- `CI` or `CD`, at `2 + ch` (R55, R58). -/
def EventWord.serviced (ev : EventWord) (ch : Channel) : Bool := ev.getLsbD (2 + ch.index)

/-- `LI` or `LD`, at `ch` (R55, R56). -/
def EventWord.level (ev : EventWord) (ch : Channel) : Bool := ev.getLsbD ch.index

/-- The `mask` column of the table of R61. -/
def Instr.mask : Instr → EventWord
  | .reset => 0x100#9
  | .advance => 0x100#9
  | .edgeInc => 0x140#9
  | .edgeDec => 0x180#9
  | .silence => 0x120#9
  | .blink => 0x110#9
  | .pressInc => 0x105#9
  | .rejectInc => 0x105#9
  | .pressDec => 0x10A#9
  | .rejectDec => 0x10A#9
  | .idle => 0x1FC#9

/-- The `match` column of the table of R61. -/
def Instr.pattern : Instr → EventWord
  | .reset => 0x100#9
  | .advance => 0x000#9
  | .edgeInc => 0x040#9
  | .edgeDec => 0x080#9
  | .silence => 0x020#9
  | .blink => 0x010#9
  | .pressInc => 0x004#9
  | .rejectInc => 0x005#9
  | .pressDec => 0x008#9
  | .rejectDec => 0x00A#9
  | .idle => 0x000#9

/-- An operation is selected exactly when `(ev & mask) = match` (R61). -/
def Instr.selectedBy (i : Instr) (ev : EventWord) : Bool := ev &&& i.mask == i.pattern

/-- The order in which the operations of one step act (R67); `IDLE`, which does nothing, is listed last. -/
def performOrder : List Instr :=
  [.reset, .advance, .edgeInc, .edgeDec, .silence, .blink, .pressInc, .rejectInc, .pressDec, .rejectDec, .idle]

/-- The operations an event word selects, in the order they act (R61, R67). -/
def select (ev : EventWord) : Bundle := performOrder.filter fun i => i.selectedBy ev

/-- Why a word is no event word that the machine can form. -/
inductive DecodeError where
  /-- `CI = 1` and `CD = 1` (R62). -/
  | bothConfirmations
  /-- `EI = 1` and `CI = 1`, or `ED = 1` and `CD = 1` (R62). -/
  | edgeWithConfirmation (ch : Channel)
  /-- `EI = 1` and `LI = 1`, or `ED = 1` and `LD = 1` (R62). -/
  | edgeOnReleasedLine (ch : Channel)
  /-- A bit above bit 8 is set: an event word has nine bits (R64; log 17). -/
  | notNineBits
deriving DecidableEq, Repr

/-- The reserved pattern a word matches, if any (R62, U2). The patterns are tested whatever `RST` is (log 6). -/
def reservedPattern (ev : EventWord) : Option DecodeError :=
  if EventWord.serviced ev .inc && EventWord.serviced ev .dec then some .bothConfirmations
  else if EventWord.edge ev .inc && EventWord.serviced ev .inc then some (.edgeWithConfirmation .inc)
  else if EventWord.edge ev .dec && EventWord.serviced ev .dec then some (.edgeWithConfirmation .dec)
  else if EventWord.edge ev .inc && EventWord.level ev .inc then some (.edgeOnReleasedLine .inc)
  else if EventWord.edge ev .dec && EventWord.level ev .dec then some (.edgeOnReleasedLine .dec)
  else none

/-- The bundle an event word stands for; a reserved word is refused by name and given no meaning (R61, R62). -/
def decode (ev : EventWord) : Except DecodeError Bundle :=
  match reservedPattern ev with
  | some e => .error e
  | none => .ok (select ev)

/-- Decoding of any number handed in from outside (R62, R64). -/
def decodeNat (w : Nat) : Except DecodeError Bundle :=
  if w < 512 then decode (BitVec.ofNat 9 w) else .error .notNineBits

/-- The operation the decoder reads from a word of the opcode table: the last one the word selects, which is the operation
itself where the word selects one operation beside `ADVANCE` (DEDUCED; log 5). -/
def decodeTableWord (_nbits w : Nat) : Option Instr :=
  match decodeNat w with
  | .ok b => b.getLast?
  | .error _ => none

/-- The line levels as operand bits 1 and 0 of an event word (R55, R56). -/
def encodeLevels (ld li : Bool) : EventWord := EventWord.pack false false false false false false false ld li

/-- The event word of a well-formed bundle at the line levels `ld`, `li`: the match bits of its operations and the levels
(R55, R61). In a reset word the bits the row ignores are 0. -/
def encode (b : Bundle) (ld li : Bool) : EventWord :=
  b.foldr (fun i w => i.pattern ||| w) (encodeLevels ld li)

end Sys2Proof
end

