-- ==== Sys2Proof/Machine/State.lean ====
section
/-! DEFINITION. The state of BTNCORE, the environment that stands beside it, the ways a step can stop, and the state after reset. -/

namespace Sys2Proof.Machine

/-- The state of BTNCORE: the thirteen named fields of R14 under the spec's names, and nothing else. It is the `S` and the
`W` of the rules. -/
structure Registers where
  /-- `digit` (R15) -/
  digit : Digit
  /-- `is_debouncing[ch]`: false Idle, true PendingConfirm (R20) -/
  isDebouncing : PerChannel Bool
  /-- `irq_en[ch]` (R25) -/
  irqEn : PerChannel Bool
  /-- `db_cnt[ch]` (R16) -/
  dbCnt : PerChannel DbCount
  /-- `prev_n[ch]`, the line's sample of the previous step (R26) -/
  prevN : PerChannel Bool
  /-- `sil[200:1]`, the pending silence timers (R18) -/
  sil : SilenceLine
  /-- `blink_cnt` (R17) -/
  blinkCnt : BlinkCount
  /-- `status_led` (R21) -/
  statusLed : Bool
  /-- `tone_on` (R22) -/
  toneOn : Bool
  /-- `pwm_en` (R23) -/
  pwmEn : Bool
  /-- `render_stb` (R24) -/
  renderStb : Bool
  /-- `tone_start_stb` (R24) -/
  toneStartStb : Bool
  /-- `tone_stop_stb` (R24) -/
  toneStopStb : Bool
deriving DecidableEq, Repr

/-- The MODEL's own, no state of BTNCORE (R14, R48): the environment that applies one input vector in each step. The host's
step has no input argument, so the run's inputs stand beside the registers (DESIGN CHOICE, safe; log 1). -/
structure Environment where
  /-- The input vectors of the coming steps, the next one first (log 1). -/
  stimulus : List InputVec
  /-- The number of the coming step, which picks the free input vector when `stimulus` lists none (log 2). -/
  ticks : Nat
deriving DecidableEq, Repr

/-- What the host steps: BTNCORE's state, and beside it the environment that feeds it its inputs. Every operation acts on the
registers alone; the step hands the registers one vector of the environment (log 1). -/
structure State extends Registers, Environment where
deriving DecidableEq, Repr

/-- BTNCORE raises no exception and has no fault, trap, halt or error state (R113): there is no fault. -/
inductive Fault where
deriving DecidableEq, Repr

/-- The reasons to give a word no meaning. -/
inductive Refusal where
  /-- Raised by an arm of `exec` for an operation without a meaning; no arm does so. Safe: the run stops. -/
  | notModelled (mnemonic : String)
  /-- Raised when a reserved event word is handed to the machine from outside (R62, U2); formation never produces one.
  Safe: the run stops and no meaning is picked. -/
  | reservedEventWord (why : DecodeError)
deriving DecidableEq, Repr

/-- The machine right after reset (R31). `prev_n` holds the lines as sampled in the reset step: here both released
(DESIGN CHOICE, unsafe; log 3). No input vector is scheduled and the tick count is 0 (DESIGN CHOICE; log 4). -/
def State.reset : State where
  digit := Config.digitReset
  isDebouncing := ⟨false, false⟩
  irqEn := ⟨true, true⟩
  dbCnt := ⟨0, 0⟩
  prevN := ⟨true, true⟩
  sil := 0
  blinkCnt := BitVec.ofNat 7 Config.tBlink
  statusLed := false
  toneOn := false
  pwmEn := false
  renderStb := false
  toneStartStb := false
  toneStopStb := false
  stimulus := []
  ticks := 0

end Sys2Proof.Machine
end

