-- ==== Sys2Proof/Machine/Flags.lean ====
section
/-! DEFINITION. The operations on the one-bit status elements of `10_state.md` section 4: the strobes, the tone flags and the status output. -/

namespace Sys2Proof.Machine

/-- Clears the three strobes, as every step that is no reset does first (R24, R69). -/
def Registers.clearStrobes (s : Registers) : Registers :=
  { s with renderStb := false, toneStartStb := false, toneStopStb := false }

/-- `RENDER` (R95). The new digit stands in `digit` already and the glyph port reads it from there (R94; log 19). -/
def Registers.render (s : Registers) : Registers := { s with renderStb := true }

/-- `TONE_START`, D0's `start` (R99). Unconditional. The frequency port reads the new digit from `digit` (R98; log 19). -/
def Registers.toneStart (s : Registers) : Registers :=
  { s with pwmEn := true, toneOn := true, toneStartStb := true }

/-- `TONE_STOP`, D0's `stop` (R100). Unconditional; `pwm_en` is not written. -/
def Registers.toneStop (s : Registers) : Registers :=
  { s with toneOn := false, toneStopStb := true }

/-- Inverts `status_led` (R21, R109). -/
def Registers.toggleLed (s : Registers) : Registers := { s with statusLed := !s.statusLed }

end Sys2Proof.Machine
end

