-- ==== Sys2Proof/Machine/Operands.lean ====
section
/-! DEFINITION. What the operations of a step read: the sampled inputs, and the event word formed from them and the registers. -/

namespace Sys2Proof.Machine

/-- The input vector of the `j`-th step from now, the coming step being number 0: the stimulus lists it, or the
environment chooses it freely (R48, R66; log 1, log 2). -/
def Environment.inputAt (e : Environment) (j : Nat) : InputVec :=
  match e.stimulus[j]? with
  | some v => v
  | none => Config.environment (e.ticks + j)

/-- The vector sampled in this step (R11, R53). -/
def Environment.input (e : Environment) : InputVec := e.inputAt 0

/-- The environment after a step: its vector is used up and the next step's comes first (R66; log 1). -/
def Environment.next (e : Environment) : Environment := { stimulus := e.stimulus.tail, ticks := e.ticks + 1 }

/-- `in.rst` (R53). -/
def State.rst (s : State) : Bool := s.input.rst

/-- `in.btn_n[ch]` (R53). -/
def State.line (s : State) (ch : Channel) : Bool := s.input.line ch

/-- `sil[k]`, for `1 <= k <= 200` (R18). -/
def Registers.silAt (s : Registers) (k : Nat) : Bool := s.sil.getLsbD (k - 1)

/-- `fall[ch]`: a sample of 1 followed by a sample of 0 (R57). -/
def Registers.fall (s : Registers) (v : InputVec) (ch : Channel) : Bool := s.prevN.get ch && !v.line ch

/-- `EI` or `ED`: the falling edge is accepted (R57). -/
def Registers.edgeAccepted (s : Registers) (v : InputVec) (ch : Channel) : Bool :=
  s.fall v ch && s.irqEn.get ch && !s.isDebouncing.get ch

/-- `due[ch]` (R58). -/
def Registers.due (s : Registers) (ch : Channel) : Bool :=
  s.isDebouncing.get ch && (s.dbCnt.get ch).ule 1#6

/-- `CI` or `CD`: the confirmation serviced in this step; Increment goes before Decrement (R58, R79). -/
def Registers.confirmationServiced (s : Registers) : Channel → Bool
  | .inc => s.due .inc
  | .dec => s.due .dec && !s.due .inc

/-- `SF` (R59). -/
def Registers.silenceFires (s : Registers) : Bool := s.silAt 1

/-- `BF` (R60). -/
def Registers.blinkFires (s : Registers) : Bool := s.blinkCnt == 1#7

/-- `form(S, in)`, the event word of a step (R55 to R60). It is formed in a reset step too. -/
def Registers.form (s : Registers) (v : InputVec) : EventWord :=
  EventWord.pack v.rst (s.edgeAccepted v .dec) (s.edgeAccepted v .inc) s.silenceFires s.blinkFires
    (s.confirmationServiced .dec) (s.confirmationServiced .inc) (v.line .dec) (v.line .inc)

/-- `fall[ch]` in the coming step. -/
def State.fall (s : State) (ch : Channel) : Bool := s.toRegisters.fall s.input ch

/-- `EI` or `ED` of the coming step. -/
def State.edgeAccepted (s : State) (ch : Channel) : Bool := s.toRegisters.edgeAccepted s.input ch

/-- The event word of the coming step. -/
def State.form (s : State) : EventWord := s.toRegisters.form s.input

end Sys2Proof.Machine
end

