-- ==== Sys2Proof/Machine/Ops.lean ====
section
/-! DEFINITION. The named operations over the registers that the meanings share: sampling and counting down, interrupt entry
and return, the digit, the timers, reset, and the hand-over of one input vector. -/

namespace Sys2Proof.Machine

/-- `prev_n[ch] <- in.btn_n[ch]` for both channels (R26, R69). -/
def Registers.sampleLines (s : Registers) (v : InputVec) : Registers :=
  { s with prevN := ⟨v.line .inc, v.line .dec⟩ }

/-- One step of a debounce counter: it moves only while the channel is pending and the counter is above 0 (R16, R69). -/
def countDownDb (pending : Bool) (c : DbCount) : DbCount :=
  if pending && decide (0 < c.toNat) then c - 1 else c

/-- Both debounce counters go down (R69). -/
def Registers.countDownDebounce (s : Registers) : Registers :=
  { s with dbCnt := ⟨countDownDb s.isDebouncing.inc s.dbCnt.inc, countDownDb s.isDebouncing.dec s.dbCnt.dec⟩ }

/-- `sil[k] <- sil[k+1]`, `sil[T_SILENCE] <- 0` (R69). -/
def Registers.shiftSilence (s : Registers) : Registers := { s with sil := s.sil >>> 1 }

/-- One step of the blink counter: down where it is above 1 (R17, R69). -/
def countDownBlinkCount (c : BlinkCount) : BlinkCount :=
  if 1 < c.toNat then c - 1 else c

/-- The blink counter goes down (R69). -/
def Registers.countDownBlink (s : Registers) : Registers := { s with blinkCnt := countDownBlinkCount s.blinkCnt }

/-- `ARM_CONFIRM(ch)` (R73). -/
def Registers.armConfirm (s : Registers) (ch : Channel) : Registers :=
  { s with dbCnt := s.dbCnt.set ch (BitVec.ofNat 6 Config.tDebounce) }

/-- INTERRUPT ENTRY of channel `ch` (R118): Idle to PendingConfirm, the line's interrupt off, the confirmation armed
(R74, R75). It saves nothing: there is no interrupted program. -/
def Registers.acceptEdge (s : Registers) (ch : Channel) : Registers :=
  { s with isDebouncing := s.isDebouncing.set ch true, irqEn := s.irqEn.set ch false }.armConfirm ch

/-- `SERVICE(ch)`, the RETURN from interrupt (R119): the line's interrupt on, the channel Idle, its counter at 0 (R80). -/
def Registers.service (s : Registers) (ch : Channel) : Registers :=
  { s with
    irqEn := s.irqEn.set ch true
    isDebouncing := s.isDebouncing.set ch false
    dbCnt := s.dbCnt.set ch 0 }

/-- `(d + 1) mod 10` (R86). -/
def incDigit (d : Digit) : Digit := Fin.ofNat 10 (d.val + 1)

/-- `(d - 1 + 10) mod 10` (R87). -/
def decDigit (d : Digit) : Digit := Fin.ofNat 10 (d.val + 10 - 1)

/-- `on_increment` (R86). -/
def Registers.onIncrement (s : Registers) : Registers := { s with digit := incDigit s.digit }

/-- `on_decrement` (R87). -/
def Registers.onDecrement (s : Registers) : Registers := { s with digit := decDigit s.digit }

/-- `ARM_SILENCE`: `sil[T_SILENCE] <- 1` (R103). -/
def Registers.armSilence (s : Registers) : Registers :=
  { s with sil := s.sil ||| (1#200 <<< (Config.tSilence - 1)) }

/-- `AFTER_TRANSITION`, in the order of R88. -/
def Registers.afterTransition (s : Registers) : Registers := s.toneStart.render.armSilence

/-- `blink_cnt <- T_BLINK` (R109). -/
def Registers.reloadBlink (s : Registers) : Registers := { s with blinkCnt := BitVec.ofNat 7 Config.tBlink }

/-- `RESET(in)`: the state of R31 and R124, whatever the state was; `prev_n` takes the lines sampled in the reset step. -/
def Registers.ofReset (v : InputVec) : Registers where
  digit := Config.digitReset
  isDebouncing := ⟨false, false⟩
  irqEn := ⟨true, true⟩
  dbCnt := ⟨0, 0⟩
  prevN := ⟨v.line .inc, v.line .dec⟩
  sil := 0
  blinkCnt := BitVec.ofNat 7 Config.tBlink
  statusLed := false
  toneOn := false
  pwmEn := false
  renderStb := false
  toneStartStb := false
  toneStopStb := false

/-- An operation acting on the registers; the environment is out of its reach (R48; log 1). -/
def State.onRegisters (s : State) (f : Registers → Registers) : State := { s with toRegisters := f s.toRegisters }

/-- The end of a step: its input vector is used up and the next step's comes first (R66; log 1). -/
def State.consumeInput (s : State) : State := { s with toEnvironment := s.toEnvironment.next }

/-- `{rst, btn_n[1], btn_n[0]}` as an event word holds them (R56). -/
def inputOfEvent (ev : EventWord) : InputVec :=
  BitVec.ofBool (EventWord.rst ev) ++ BitVec.ofBool (EventWord.level ev .dec) ++ BitVec.ofBool (EventWord.level ev .inc)

/-- Channel `ch` put where the next step forms the bits of `ev` that belong to it: about to see an edge, about to be
serviced, or quiet (R57, R58). -/
def Registers.prepareChannel (s : Registers) (ev : EventWord) (ch : Channel) : Registers :=
  if EventWord.serviced ev ch then
    { s with
      isDebouncing := s.isDebouncing.set ch true
      irqEn := s.irqEn.set ch false
      dbCnt := s.dbCnt.set ch 1 }
  else
    { s with
      isDebouncing := s.isDebouncing.set ch false
      irqEn := s.irqEn.set ch true
      dbCnt := s.dbCnt.set ch 0
      prevN := s.prevN.set ch (EventWord.edge ev ch || EventWord.level ev ch) }

/-- Registers whose past is such that the next step, at the inputs of `ev`, forms `ev` (R57 to R60; log 13). -/
def Registers.prepareFor (s : Registers) (ev : EventWord) : Registers :=
  let t := (s.prepareChannel ev .inc).prepareChannel ev .dec
  { t with
    sil := if EventWord.silenceFires ev then t.sil ||| 1#200 else t.sil &&& ~~~(1#200)
    blinkCnt :=
      if EventWord.blinkFires ev then 1#7
      else if t.blinkCnt == 1#7 then BitVec.ofNat 7 Config.tBlink else t.blinkCnt }

/-- `s` with its past and its next input vector put where the next step forms the event word `ev` (R55 to R60; log 13). -/
def State.prepareFor (ev : EventWord) (s : State) : State :=
  { s with
    toRegisters := s.toRegisters.prepareFor ev
    stimulus := inputOfEvent ev :: s.stimulus.tail }

end Sys2Proof.Machine
end

