-- ==== Sys2Proof/Machine/Application.lean ====
section
/-! DEFINITION. `PRESS.INC` and `PRESS.DEC` (`42_application.md`). -/

namespace Sys2Proof.Machine

/-- `PRESS.INC` (R89). -/
def execPressInc (s : State) : Host.Outcome State Fault Refusal :=
  .next (s.onRegisters fun r => r.onIncrement.afterTransition.service .inc)

/-- `PRESS.DEC` (R90). -/
def execPressDec (s : State) : Host.Outcome State Fault Refusal :=
  .next (s.onRegisters fun r => r.onDecrement.afterTransition.service .dec)

end Sys2Proof.Machine
end

