-- ==== Sys2Proof/Machine/Control.lean ====
section
/-! DEFINITION. `RESET`, `ADVANCE` and `IDLE` (`70_reset_and_hazards.md`, `40_step.md`). -/

namespace Sys2Proof.Machine

/-- `RESET` (R124). -/
def execReset (s : State) : Host.Outcome State Fault Refusal := .next (s.onRegisters fun _ => .ofReset s.input)

/-- `ADVANCE`: the passing of one time unit (R69). It is the first operation of its step, so the working copy it reads is
the pre-state. -/
def execAdvance (s : State) : Host.Outcome State Fault Refusal :=
  .next (s.onRegisters fun r => (r.clearStrobes.sampleLines s.input).countDownDebounce.shiftSilence.countDownBlink)

/-- `IDLE`: the working copy is left as `ADVANCE` made it (R70). -/
def execIdle (s : State) : Host.Outcome State Fault Refusal := .next s

end Sys2Proof.Machine
end

