-- ==== Sys2Proof/Machine/Debounce.lean ====
section
/-! DEFINITION. `EDGE.INC`, `EDGE.DEC`, `REJECT.INC`, `REJECT.DEC` (`41_debounce.md`). -/

namespace Sys2Proof.Machine

/-- `EDGE.INC` (R74). -/
def execEdgeInc (s : State) : Host.Outcome State Fault Refusal := .next (s.onRegisters fun r => r.acceptEdge .inc)

/-- `EDGE.DEC` (R75). -/
def execEdgeDec (s : State) : Host.Outcome State Fault Refusal := .next (s.onRegisters fun r => r.acceptEdge .dec)

/-- `REJECT.INC` (R82). -/
def execRejectInc (s : State) : Host.Outcome State Fault Refusal := .next (s.onRegisters fun r => r.service .inc)

/-- `REJECT.DEC` (R83). -/
def execRejectDec (s : State) : Host.Outcome State Fault Refusal := .next (s.onRegisters fun r => r.service .dec)

end Sys2Proof.Machine
end

