-- ==== Sys2Proof/Machine/Timers.lean ====
section
/-! DEFINITION. `SILENCE` and `BLINK` (`44_timers.md`). -/

namespace Sys2Proof.Machine

/-- `SILENCE` (R104). The timer itself is consumed by the `ADVANCE` of the same step. -/
def execSilence (s : State) : Host.Outcome State Fault Refusal := .next (s.onRegisters fun r => r.toneStop)

/-- `BLINK` (R109). No earlier operation of the step writes `status_led`, so the working copy's value is the pre-state's. -/
def execBlink (s : State) : Host.Outcome State Fault Refusal := .next (s.onRegisters fun r => r.toggleLed.reloadBlink)

end Sys2Proof.Machine
end

