-- ==== Sys2Proof/Machine/Dispatch.lean ====
section
/-! DEFINITION. The meaning of each operation, one arm per constructor. -/

namespace Sys2Proof.Machine

/-- One operation acting on the working copy of its step (R66). -/
def exec (i : Instr) (s : State) : Host.Outcome State Fault Refusal :=
  match i with
  | .reset => Sys2Proof.Machine.execReset s
  | .advance => Sys2Proof.Machine.execAdvance s
  | .edgeInc => Sys2Proof.Machine.execEdgeInc s
  | .edgeDec => Sys2Proof.Machine.execEdgeDec s
  | .silence => Sys2Proof.Machine.execSilence s
  | .blink => Sys2Proof.Machine.execBlink s
  | .pressInc => Sys2Proof.Machine.execPressInc s
  | .rejectInc => Sys2Proof.Machine.execRejectInc s
  | .pressDec => Sys2Proof.Machine.execPressDec s
  | .rejectDec => Sys2Proof.Machine.execRejectDec s
  | .idle => Sys2Proof.Machine.execIdle s

end Sys2Proof.Machine
end

