-- ==== Sys2Proof/Machine/Sequence.lean ====
section
/-! DEFINITION. How the operations of one time unit compose (`40_step.md`). -/

namespace Sys2Proof.Machine

/-- The operations of a bundle act on the working copy one after the other (R66, R67). -/
def runBundle : Bundle → State → Host.Outcome State Fault Refusal
  | [], w => .next w
  | i :: rest, w =>
    match exec i w with
    | .next w' => runBundle rest w'
    | .fault f => .fault f
    | .refused r => .refused r

/-- The operations an event word stands for act on the state; a reserved word is refused by name (R62, R66). -/
def runEvent (ev : EventWord) (s : State) : Host.Outcome State Fault Refusal :=
  match decode ev with
  | .ok b => runBundle b s
  | .error e => .refused (.reservedEventWord e)

/-- One time unit: form the event word, perform the operations it selects, use up the input vector (R66). -/
def stepOnce (s : State) : Host.Outcome State Fault Refusal :=
  match runEvent s.form s with
  | .next w => .next w.consumeInput
  | .fault f => .fault f
  | .refused r => .refused r

end Sys2Proof.Machine
end

