-- ==== Sys2Proof/Machine/Step.lean ====
section
/-! DEFINITION. The step function under the host's names. -/

namespace Sys2Proof.Machine

/-- `step(S, in)` of R66; the input vector is the one sampled from the environment (log 1). -/
def step (s : State) : Host.Outcome State Fault Refusal := stepOnce s

/-- `s` made ready to form the event word `w` in its next step: BTNCORE has no fetch (R19), the word is formed from the
inputs and the state (log 13). -/
def State.withFetchWord (s : State) (_nbits w : Nat) : State := s.prepareFor (BitVec.ofNat 9 w)

end Sys2Proof.Machine
end

