-- ==== Sys2Proof/Laws/Decode.lean ====
section
/-! SUPPORT. The bits of a packed event word, and what decoding answers. -/

namespace Sys2Proof

section bits

variable (rst ed ei sf bf cd ci ld li : Bool)

@[simp] theorem pack_rst : EventWord.rst (.pack rst ed ei sf bf cd ci ld li) = rst := by
  revert rst ed ei sf bf cd ci ld li; decide

@[simp] theorem pack_edge_inc : EventWord.edge (.pack rst ed ei sf bf cd ci ld li) .inc = ei := by
  revert rst ed ei sf bf cd ci ld li; decide

@[simp] theorem pack_edge_dec : EventWord.edge (.pack rst ed ei sf bf cd ci ld li) .dec = ed := by
  revert rst ed ei sf bf cd ci ld li; decide

@[simp] theorem pack_silenceFires : EventWord.silenceFires (.pack rst ed ei sf bf cd ci ld li) = sf := by
  revert rst ed ei sf bf cd ci ld li; decide

@[simp] theorem pack_blinkFires : EventWord.blinkFires (.pack rst ed ei sf bf cd ci ld li) = bf := by
  revert rst ed ei sf bf cd ci ld li; decide

@[simp] theorem pack_serviced_inc : EventWord.serviced (.pack rst ed ei sf bf cd ci ld li) .inc = ci := by
  revert rst ed ei sf bf cd ci ld li; decide

@[simp] theorem pack_serviced_dec : EventWord.serviced (.pack rst ed ei sf bf cd ci ld li) .dec = cd := by
  revert rst ed ei sf bf cd ci ld li; decide

@[simp] theorem pack_level_inc : EventWord.level (.pack rst ed ei sf bf cd ci ld li) .inc = li := by
  revert rst ed ei sf bf cd ci ld li; decide

@[simp] theorem pack_level_dec : EventWord.level (.pack rst ed ei sf bf cd ci ld li) .dec = ld := by
  revert rst ed ei sf bf cd ci ld li; decide

end bits

/-- Decoding answers the selected bundle exactly where the word is not reserved. -/
theorem decode_ok {ev : EventWord} {b : Bundle} : decode ev = .ok b ↔ reservedPattern ev = none ∧ select ev = b := by
  unfold decode
  split <;> simp_all

/-- Decoding refuses exactly the reserved words, by the pattern they match. -/
theorem decode_error {ev : EventWord} {e : DecodeError} : decode ev = .error e ↔ reservedPattern ev = some e := by
  unfold decode
  split <;> simp_all

end Sys2Proof
end

