-- ==== Sys2Proof/Laws/State.lean ====
section
/-! SUPPORT. One lemma per field per update: what each named operation over the registers and over the state leaves in each
field, true by rfl. -/

namespace Sys2Proof.Machine

section registers

variable (s : Registers)

@[simp] theorem Registers.clearStrobes_digit : s.clearStrobes.digit = s.digit := rfl
@[simp] theorem Registers.clearStrobes_isDebouncing : s.clearStrobes.isDebouncing = s.isDebouncing := rfl
@[simp] theorem Registers.clearStrobes_irqEn : s.clearStrobes.irqEn = s.irqEn := rfl
@[simp] theorem Registers.clearStrobes_dbCnt : s.clearStrobes.dbCnt = s.dbCnt := rfl
@[simp] theorem Registers.clearStrobes_prevN : s.clearStrobes.prevN = s.prevN := rfl
@[simp] theorem Registers.clearStrobes_sil : s.clearStrobes.sil = s.sil := rfl
@[simp] theorem Registers.clearStrobes_blinkCnt : s.clearStrobes.blinkCnt = s.blinkCnt := rfl
@[simp] theorem Registers.clearStrobes_statusLed : s.clearStrobes.statusLed = s.statusLed := rfl
@[simp] theorem Registers.clearStrobes_toneOn : s.clearStrobes.toneOn = s.toneOn := rfl
@[simp] theorem Registers.clearStrobes_pwmEn : s.clearStrobes.pwmEn = s.pwmEn := rfl
@[simp] theorem Registers.clearStrobes_renderStb : s.clearStrobes.renderStb = false := rfl
@[simp] theorem Registers.clearStrobes_toneStartStb : s.clearStrobes.toneStartStb = false := rfl
@[simp] theorem Registers.clearStrobes_toneStopStb : s.clearStrobes.toneStopStb = false := rfl

@[simp] theorem Registers.render_digit : s.render.digit = s.digit := rfl
@[simp] theorem Registers.render_isDebouncing : s.render.isDebouncing = s.isDebouncing := rfl
@[simp] theorem Registers.render_irqEn : s.render.irqEn = s.irqEn := rfl
@[simp] theorem Registers.render_dbCnt : s.render.dbCnt = s.dbCnt := rfl
@[simp] theorem Registers.render_prevN : s.render.prevN = s.prevN := rfl
@[simp] theorem Registers.render_sil : s.render.sil = s.sil := rfl
@[simp] theorem Registers.render_blinkCnt : s.render.blinkCnt = s.blinkCnt := rfl
@[simp] theorem Registers.render_statusLed : s.render.statusLed = s.statusLed := rfl
@[simp] theorem Registers.render_toneOn : s.render.toneOn = s.toneOn := rfl
@[simp] theorem Registers.render_pwmEn : s.render.pwmEn = s.pwmEn := rfl
@[simp] theorem Registers.render_renderStb : s.render.renderStb = true := rfl
@[simp] theorem Registers.render_toneStartStb : s.render.toneStartStb = s.toneStartStb := rfl
@[simp] theorem Registers.render_toneStopStb : s.render.toneStopStb = s.toneStopStb := rfl

@[simp] theorem Registers.toneStart_digit : s.toneStart.digit = s.digit := rfl
@[simp] theorem Registers.toneStart_isDebouncing : s.toneStart.isDebouncing = s.isDebouncing := rfl
@[simp] theorem Registers.toneStart_irqEn : s.toneStart.irqEn = s.irqEn := rfl
@[simp] theorem Registers.toneStart_dbCnt : s.toneStart.dbCnt = s.dbCnt := rfl
@[simp] theorem Registers.toneStart_prevN : s.toneStart.prevN = s.prevN := rfl
@[simp] theorem Registers.toneStart_sil : s.toneStart.sil = s.sil := rfl
@[simp] theorem Registers.toneStart_blinkCnt : s.toneStart.blinkCnt = s.blinkCnt := rfl
@[simp] theorem Registers.toneStart_statusLed : s.toneStart.statusLed = s.statusLed := rfl
@[simp] theorem Registers.toneStart_toneOn : s.toneStart.toneOn = true := rfl
@[simp] theorem Registers.toneStart_pwmEn : s.toneStart.pwmEn = true := rfl
@[simp] theorem Registers.toneStart_renderStb : s.toneStart.renderStb = s.renderStb := rfl
@[simp] theorem Registers.toneStart_toneStartStb : s.toneStart.toneStartStb = true := rfl
@[simp] theorem Registers.toneStart_toneStopStb : s.toneStart.toneStopStb = s.toneStopStb := rfl

@[simp] theorem Registers.toneStop_digit : s.toneStop.digit = s.digit := rfl
@[simp] theorem Registers.toneStop_isDebouncing : s.toneStop.isDebouncing = s.isDebouncing := rfl
@[simp] theorem Registers.toneStop_irqEn : s.toneStop.irqEn = s.irqEn := rfl
@[simp] theorem Registers.toneStop_dbCnt : s.toneStop.dbCnt = s.dbCnt := rfl
@[simp] theorem Registers.toneStop_prevN : s.toneStop.prevN = s.prevN := rfl
@[simp] theorem Registers.toneStop_sil : s.toneStop.sil = s.sil := rfl
@[simp] theorem Registers.toneStop_blinkCnt : s.toneStop.blinkCnt = s.blinkCnt := rfl
@[simp] theorem Registers.toneStop_statusLed : s.toneStop.statusLed = s.statusLed := rfl
@[simp] theorem Registers.toneStop_toneOn : s.toneStop.toneOn = false := rfl
@[simp] theorem Registers.toneStop_pwmEn : s.toneStop.pwmEn = s.pwmEn := rfl
@[simp] theorem Registers.toneStop_renderStb : s.toneStop.renderStb = s.renderStb := rfl
@[simp] theorem Registers.toneStop_toneStartStb : s.toneStop.toneStartStb = s.toneStartStb := rfl
@[simp] theorem Registers.toneStop_toneStopStb : s.toneStop.toneStopStb = true := rfl

@[simp] theorem Registers.toggleLed_digit : s.toggleLed.digit = s.digit := rfl
@[simp] theorem Registers.toggleLed_isDebouncing : s.toggleLed.isDebouncing = s.isDebouncing := rfl
@[simp] theorem Registers.toggleLed_irqEn : s.toggleLed.irqEn = s.irqEn := rfl
@[simp] theorem Registers.toggleLed_dbCnt : s.toggleLed.dbCnt = s.dbCnt := rfl
@[simp] theorem Registers.toggleLed_prevN : s.toggleLed.prevN = s.prevN := rfl
@[simp] theorem Registers.toggleLed_sil : s.toggleLed.sil = s.sil := rfl
@[simp] theorem Registers.toggleLed_blinkCnt : s.toggleLed.blinkCnt = s.blinkCnt := rfl
@[simp] theorem Registers.toggleLed_statusLed : s.toggleLed.statusLed = !s.statusLed := rfl
@[simp] theorem Registers.toggleLed_toneOn : s.toggleLed.toneOn = s.toneOn := rfl
@[simp] theorem Registers.toggleLed_pwmEn : s.toggleLed.pwmEn = s.pwmEn := rfl
@[simp] theorem Registers.toggleLed_renderStb : s.toggleLed.renderStb = s.renderStb := rfl
@[simp] theorem Registers.toggleLed_toneStartStb : s.toggleLed.toneStartStb = s.toneStartStb := rfl
@[simp] theorem Registers.toggleLed_toneStopStb : s.toggleLed.toneStopStb = s.toneStopStb := rfl

@[simp] theorem Registers.sampleLines_digit (v : InputVec) : (s.sampleLines v).digit = s.digit := rfl
@[simp] theorem Registers.sampleLines_isDebouncing (v : InputVec) : (s.sampleLines v).isDebouncing = s.isDebouncing := rfl
@[simp] theorem Registers.sampleLines_irqEn (v : InputVec) : (s.sampleLines v).irqEn = s.irqEn := rfl
@[simp] theorem Registers.sampleLines_dbCnt (v : InputVec) : (s.sampleLines v).dbCnt = s.dbCnt := rfl
@[simp] theorem Registers.sampleLines_prevN (v : InputVec) : (s.sampleLines v).prevN = ⟨InputVec.line v .inc, InputVec.line v .dec⟩ := rfl
@[simp] theorem Registers.sampleLines_sil (v : InputVec) : (s.sampleLines v).sil = s.sil := rfl
@[simp] theorem Registers.sampleLines_blinkCnt (v : InputVec) : (s.sampleLines v).blinkCnt = s.blinkCnt := rfl
@[simp] theorem Registers.sampleLines_statusLed (v : InputVec) : (s.sampleLines v).statusLed = s.statusLed := rfl
@[simp] theorem Registers.sampleLines_toneOn (v : InputVec) : (s.sampleLines v).toneOn = s.toneOn := rfl
@[simp] theorem Registers.sampleLines_pwmEn (v : InputVec) : (s.sampleLines v).pwmEn = s.pwmEn := rfl
@[simp] theorem Registers.sampleLines_renderStb (v : InputVec) : (s.sampleLines v).renderStb = s.renderStb := rfl
@[simp] theorem Registers.sampleLines_toneStartStb (v : InputVec) : (s.sampleLines v).toneStartStb = s.toneStartStb := rfl
@[simp] theorem Registers.sampleLines_toneStopStb (v : InputVec) : (s.sampleLines v).toneStopStb = s.toneStopStb := rfl

@[simp] theorem Registers.countDownDebounce_digit : s.countDownDebounce.digit = s.digit := rfl
@[simp] theorem Registers.countDownDebounce_isDebouncing : s.countDownDebounce.isDebouncing = s.isDebouncing := rfl
@[simp] theorem Registers.countDownDebounce_irqEn : s.countDownDebounce.irqEn = s.irqEn := rfl
@[simp] theorem Registers.countDownDebounce_dbCnt : s.countDownDebounce.dbCnt = ⟨countDownDb s.isDebouncing.inc s.dbCnt.inc, countDownDb s.isDebouncing.dec s.dbCnt.dec⟩ := rfl
@[simp] theorem Registers.countDownDebounce_prevN : s.countDownDebounce.prevN = s.prevN := rfl
@[simp] theorem Registers.countDownDebounce_sil : s.countDownDebounce.sil = s.sil := rfl
@[simp] theorem Registers.countDownDebounce_blinkCnt : s.countDownDebounce.blinkCnt = s.blinkCnt := rfl
@[simp] theorem Registers.countDownDebounce_statusLed : s.countDownDebounce.statusLed = s.statusLed := rfl
@[simp] theorem Registers.countDownDebounce_toneOn : s.countDownDebounce.toneOn = s.toneOn := rfl
@[simp] theorem Registers.countDownDebounce_pwmEn : s.countDownDebounce.pwmEn = s.pwmEn := rfl
@[simp] theorem Registers.countDownDebounce_renderStb : s.countDownDebounce.renderStb = s.renderStb := rfl
@[simp] theorem Registers.countDownDebounce_toneStartStb : s.countDownDebounce.toneStartStb = s.toneStartStb := rfl
@[simp] theorem Registers.countDownDebounce_toneStopStb : s.countDownDebounce.toneStopStb = s.toneStopStb := rfl

@[simp] theorem Registers.shiftSilence_digit : s.shiftSilence.digit = s.digit := rfl
@[simp] theorem Registers.shiftSilence_isDebouncing : s.shiftSilence.isDebouncing = s.isDebouncing := rfl
@[simp] theorem Registers.shiftSilence_irqEn : s.shiftSilence.irqEn = s.irqEn := rfl
@[simp] theorem Registers.shiftSilence_dbCnt : s.shiftSilence.dbCnt = s.dbCnt := rfl
@[simp] theorem Registers.shiftSilence_prevN : s.shiftSilence.prevN = s.prevN := rfl
@[simp] theorem Registers.shiftSilence_sil : s.shiftSilence.sil = s.sil >>> 1 := rfl
@[simp] theorem Registers.shiftSilence_blinkCnt : s.shiftSilence.blinkCnt = s.blinkCnt := rfl
@[simp] theorem Registers.shiftSilence_statusLed : s.shiftSilence.statusLed = s.statusLed := rfl
@[simp] theorem Registers.shiftSilence_toneOn : s.shiftSilence.toneOn = s.toneOn := rfl
@[simp] theorem Registers.shiftSilence_pwmEn : s.shiftSilence.pwmEn = s.pwmEn := rfl
@[simp] theorem Registers.shiftSilence_renderStb : s.shiftSilence.renderStb = s.renderStb := rfl
@[simp] theorem Registers.shiftSilence_toneStartStb : s.shiftSilence.toneStartStb = s.toneStartStb := rfl
@[simp] theorem Registers.shiftSilence_toneStopStb : s.shiftSilence.toneStopStb = s.toneStopStb := rfl

@[simp] theorem Registers.countDownBlink_digit : s.countDownBlink.digit = s.digit := rfl
@[simp] theorem Registers.countDownBlink_isDebouncing : s.countDownBlink.isDebouncing = s.isDebouncing := rfl
@[simp] theorem Registers.countDownBlink_irqEn : s.countDownBlink.irqEn = s.irqEn := rfl
@[simp] theorem Registers.countDownBlink_dbCnt : s.countDownBlink.dbCnt = s.dbCnt := rfl
@[simp] theorem Registers.countDownBlink_prevN : s.countDownBlink.prevN = s.prevN := rfl
@[simp] theorem Registers.countDownBlink_sil : s.countDownBlink.sil = s.sil := rfl
@[simp] theorem Registers.countDownBlink_blinkCnt : s.countDownBlink.blinkCnt = countDownBlinkCount s.blinkCnt := rfl
@[simp] theorem Registers.countDownBlink_statusLed : s.countDownBlink.statusLed = s.statusLed := rfl
@[simp] theorem Registers.countDownBlink_toneOn : s.countDownBlink.toneOn = s.toneOn := rfl
@[simp] theorem Registers.countDownBlink_pwmEn : s.countDownBlink.pwmEn = s.pwmEn := rfl
@[simp] theorem Registers.countDownBlink_renderStb : s.countDownBlink.renderStb = s.renderStb := rfl
@[simp] theorem Registers.countDownBlink_toneStartStb : s.countDownBlink.toneStartStb = s.toneStartStb := rfl
@[simp] theorem Registers.countDownBlink_toneStopStb : s.countDownBlink.toneStopStb = s.toneStopStb := rfl

@[simp] theorem Registers.armConfirm_digit (ch : Channel) : (s.armConfirm ch).digit = s.digit := rfl
@[simp] theorem Registers.armConfirm_isDebouncing (ch : Channel) : (s.armConfirm ch).isDebouncing = s.isDebouncing := rfl
@[simp] theorem Registers.armConfirm_irqEn (ch : Channel) : (s.armConfirm ch).irqEn = s.irqEn := rfl
@[simp] theorem Registers.armConfirm_dbCnt (ch : Channel) : (s.armConfirm ch).dbCnt = s.dbCnt.set ch 50#6 := rfl
@[simp] theorem Registers.armConfirm_prevN (ch : Channel) : (s.armConfirm ch).prevN = s.prevN := rfl
@[simp] theorem Registers.armConfirm_sil (ch : Channel) : (s.armConfirm ch).sil = s.sil := rfl
@[simp] theorem Registers.armConfirm_blinkCnt (ch : Channel) : (s.armConfirm ch).blinkCnt = s.blinkCnt := rfl
@[simp] theorem Registers.armConfirm_statusLed (ch : Channel) : (s.armConfirm ch).statusLed = s.statusLed := rfl
@[simp] theorem Registers.armConfirm_toneOn (ch : Channel) : (s.armConfirm ch).toneOn = s.toneOn := rfl
@[simp] theorem Registers.armConfirm_pwmEn (ch : Channel) : (s.armConfirm ch).pwmEn = s.pwmEn := rfl
@[simp] theorem Registers.armConfirm_renderStb (ch : Channel) : (s.armConfirm ch).renderStb = s.renderStb := rfl
@[simp] theorem Registers.armConfirm_toneStartStb (ch : Channel) : (s.armConfirm ch).toneStartStb = s.toneStartStb := rfl
@[simp] theorem Registers.armConfirm_toneStopStb (ch : Channel) : (s.armConfirm ch).toneStopStb = s.toneStopStb := rfl

@[simp] theorem Registers.acceptEdge_digit (ch : Channel) : (s.acceptEdge ch).digit = s.digit := rfl
@[simp] theorem Registers.acceptEdge_isDebouncing (ch : Channel) : (s.acceptEdge ch).isDebouncing = s.isDebouncing.set ch true := rfl
@[simp] theorem Registers.acceptEdge_irqEn (ch : Channel) : (s.acceptEdge ch).irqEn = s.irqEn.set ch false := rfl
@[simp] theorem Registers.acceptEdge_dbCnt (ch : Channel) : (s.acceptEdge ch).dbCnt = s.dbCnt.set ch 50#6 := rfl
@[simp] theorem Registers.acceptEdge_prevN (ch : Channel) : (s.acceptEdge ch).prevN = s.prevN := rfl
@[simp] theorem Registers.acceptEdge_sil (ch : Channel) : (s.acceptEdge ch).sil = s.sil := rfl
@[simp] theorem Registers.acceptEdge_blinkCnt (ch : Channel) : (s.acceptEdge ch).blinkCnt = s.blinkCnt := rfl
@[simp] theorem Registers.acceptEdge_statusLed (ch : Channel) : (s.acceptEdge ch).statusLed = s.statusLed := rfl
@[simp] theorem Registers.acceptEdge_toneOn (ch : Channel) : (s.acceptEdge ch).toneOn = s.toneOn := rfl
@[simp] theorem Registers.acceptEdge_pwmEn (ch : Channel) : (s.acceptEdge ch).pwmEn = s.pwmEn := rfl
@[simp] theorem Registers.acceptEdge_renderStb (ch : Channel) : (s.acceptEdge ch).renderStb = s.renderStb := rfl
@[simp] theorem Registers.acceptEdge_toneStartStb (ch : Channel) : (s.acceptEdge ch).toneStartStb = s.toneStartStb := rfl
@[simp] theorem Registers.acceptEdge_toneStopStb (ch : Channel) : (s.acceptEdge ch).toneStopStb = s.toneStopStb := rfl

@[simp] theorem Registers.service_digit (ch : Channel) : (s.service ch).digit = s.digit := rfl
@[simp] theorem Registers.service_isDebouncing (ch : Channel) : (s.service ch).isDebouncing = s.isDebouncing.set ch false := rfl
@[simp] theorem Registers.service_irqEn (ch : Channel) : (s.service ch).irqEn = s.irqEn.set ch true := rfl
@[simp] theorem Registers.service_dbCnt (ch : Channel) : (s.service ch).dbCnt = s.dbCnt.set ch 0#6 := rfl
@[simp] theorem Registers.service_prevN (ch : Channel) : (s.service ch).prevN = s.prevN := rfl
@[simp] theorem Registers.service_sil (ch : Channel) : (s.service ch).sil = s.sil := rfl
@[simp] theorem Registers.service_blinkCnt (ch : Channel) : (s.service ch).blinkCnt = s.blinkCnt := rfl
@[simp] theorem Registers.service_statusLed (ch : Channel) : (s.service ch).statusLed = s.statusLed := rfl
@[simp] theorem Registers.service_toneOn (ch : Channel) : (s.service ch).toneOn = s.toneOn := rfl
@[simp] theorem Registers.service_pwmEn (ch : Channel) : (s.service ch).pwmEn = s.pwmEn := rfl
@[simp] theorem Registers.service_renderStb (ch : Channel) : (s.service ch).renderStb = s.renderStb := rfl
@[simp] theorem Registers.service_toneStartStb (ch : Channel) : (s.service ch).toneStartStb = s.toneStartStb := rfl
@[simp] theorem Registers.service_toneStopStb (ch : Channel) : (s.service ch).toneStopStb = s.toneStopStb := rfl

@[simp] theorem Registers.onIncrement_digit : s.onIncrement.digit = incDigit s.digit := rfl
@[simp] theorem Registers.onIncrement_isDebouncing : s.onIncrement.isDebouncing = s.isDebouncing := rfl
@[simp] theorem Registers.onIncrement_irqEn : s.onIncrement.irqEn = s.irqEn := rfl
@[simp] theorem Registers.onIncrement_dbCnt : s.onIncrement.dbCnt = s.dbCnt := rfl
@[simp] theorem Registers.onIncrement_prevN : s.onIncrement.prevN = s.prevN := rfl
@[simp] theorem Registers.onIncrement_sil : s.onIncrement.sil = s.sil := rfl
@[simp] theorem Registers.onIncrement_blinkCnt : s.onIncrement.blinkCnt = s.blinkCnt := rfl
@[simp] theorem Registers.onIncrement_statusLed : s.onIncrement.statusLed = s.statusLed := rfl
@[simp] theorem Registers.onIncrement_toneOn : s.onIncrement.toneOn = s.toneOn := rfl
@[simp] theorem Registers.onIncrement_pwmEn : s.onIncrement.pwmEn = s.pwmEn := rfl
@[simp] theorem Registers.onIncrement_renderStb : s.onIncrement.renderStb = s.renderStb := rfl
@[simp] theorem Registers.onIncrement_toneStartStb : s.onIncrement.toneStartStb = s.toneStartStb := rfl
@[simp] theorem Registers.onIncrement_toneStopStb : s.onIncrement.toneStopStb = s.toneStopStb := rfl

@[simp] theorem Registers.onDecrement_digit : s.onDecrement.digit = decDigit s.digit := rfl
@[simp] theorem Registers.onDecrement_isDebouncing : s.onDecrement.isDebouncing = s.isDebouncing := rfl
@[simp] theorem Registers.onDecrement_irqEn : s.onDecrement.irqEn = s.irqEn := rfl
@[simp] theorem Registers.onDecrement_dbCnt : s.onDecrement.dbCnt = s.dbCnt := rfl
@[simp] theorem Registers.onDecrement_prevN : s.onDecrement.prevN = s.prevN := rfl
@[simp] theorem Registers.onDecrement_sil : s.onDecrement.sil = s.sil := rfl
@[simp] theorem Registers.onDecrement_blinkCnt : s.onDecrement.blinkCnt = s.blinkCnt := rfl
@[simp] theorem Registers.onDecrement_statusLed : s.onDecrement.statusLed = s.statusLed := rfl
@[simp] theorem Registers.onDecrement_toneOn : s.onDecrement.toneOn = s.toneOn := rfl
@[simp] theorem Registers.onDecrement_pwmEn : s.onDecrement.pwmEn = s.pwmEn := rfl
@[simp] theorem Registers.onDecrement_renderStb : s.onDecrement.renderStb = s.renderStb := rfl
@[simp] theorem Registers.onDecrement_toneStartStb : s.onDecrement.toneStartStb = s.toneStartStb := rfl
@[simp] theorem Registers.onDecrement_toneStopStb : s.onDecrement.toneStopStb = s.toneStopStb := rfl

@[simp] theorem Registers.armSilence_digit : s.armSilence.digit = s.digit := rfl
@[simp] theorem Registers.armSilence_isDebouncing : s.armSilence.isDebouncing = s.isDebouncing := rfl
@[simp] theorem Registers.armSilence_irqEn : s.armSilence.irqEn = s.irqEn := rfl
@[simp] theorem Registers.armSilence_dbCnt : s.armSilence.dbCnt = s.dbCnt := rfl
@[simp] theorem Registers.armSilence_prevN : s.armSilence.prevN = s.prevN := rfl
@[simp] theorem Registers.armSilence_sil : s.armSilence.sil = s.sil ||| (1#200 <<< 199) := rfl
@[simp] theorem Registers.armSilence_blinkCnt : s.armSilence.blinkCnt = s.blinkCnt := rfl
@[simp] theorem Registers.armSilence_statusLed : s.armSilence.statusLed = s.statusLed := rfl
@[simp] theorem Registers.armSilence_toneOn : s.armSilence.toneOn = s.toneOn := rfl
@[simp] theorem Registers.armSilence_pwmEn : s.armSilence.pwmEn = s.pwmEn := rfl
@[simp] theorem Registers.armSilence_renderStb : s.armSilence.renderStb = s.renderStb := rfl
@[simp] theorem Registers.armSilence_toneStartStb : s.armSilence.toneStartStb = s.toneStartStb := rfl
@[simp] theorem Registers.armSilence_toneStopStb : s.armSilence.toneStopStb = s.toneStopStb := rfl

@[simp] theorem Registers.afterTransition_digit : s.afterTransition.digit = s.digit := rfl
@[simp] theorem Registers.afterTransition_isDebouncing : s.afterTransition.isDebouncing = s.isDebouncing := rfl
@[simp] theorem Registers.afterTransition_irqEn : s.afterTransition.irqEn = s.irqEn := rfl
@[simp] theorem Registers.afterTransition_dbCnt : s.afterTransition.dbCnt = s.dbCnt := rfl
@[simp] theorem Registers.afterTransition_prevN : s.afterTransition.prevN = s.prevN := rfl
@[simp] theorem Registers.afterTransition_sil : s.afterTransition.sil = s.sil ||| (1#200 <<< 199) := rfl
@[simp] theorem Registers.afterTransition_blinkCnt : s.afterTransition.blinkCnt = s.blinkCnt := rfl
@[simp] theorem Registers.afterTransition_statusLed : s.afterTransition.statusLed = s.statusLed := rfl
@[simp] theorem Registers.afterTransition_toneOn : s.afterTransition.toneOn = true := rfl
@[simp] theorem Registers.afterTransition_pwmEn : s.afterTransition.pwmEn = true := rfl
@[simp] theorem Registers.afterTransition_renderStb : s.afterTransition.renderStb = true := rfl
@[simp] theorem Registers.afterTransition_toneStartStb : s.afterTransition.toneStartStb = true := rfl
@[simp] theorem Registers.afterTransition_toneStopStb : s.afterTransition.toneStopStb = s.toneStopStb := rfl

@[simp] theorem Registers.reloadBlink_digit : s.reloadBlink.digit = s.digit := rfl
@[simp] theorem Registers.reloadBlink_isDebouncing : s.reloadBlink.isDebouncing = s.isDebouncing := rfl
@[simp] theorem Registers.reloadBlink_irqEn : s.reloadBlink.irqEn = s.irqEn := rfl
@[simp] theorem Registers.reloadBlink_dbCnt : s.reloadBlink.dbCnt = s.dbCnt := rfl
@[simp] theorem Registers.reloadBlink_prevN : s.reloadBlink.prevN = s.prevN := rfl
@[simp] theorem Registers.reloadBlink_sil : s.reloadBlink.sil = s.sil := rfl
@[simp] theorem Registers.reloadBlink_blinkCnt : s.reloadBlink.blinkCnt = 100#7 := rfl
@[simp] theorem Registers.reloadBlink_statusLed : s.reloadBlink.statusLed = s.statusLed := rfl
@[simp] theorem Registers.reloadBlink_toneOn : s.reloadBlink.toneOn = s.toneOn := rfl
@[simp] theorem Registers.reloadBlink_pwmEn : s.reloadBlink.pwmEn = s.pwmEn := rfl
@[simp] theorem Registers.reloadBlink_renderStb : s.reloadBlink.renderStb = s.renderStb := rfl
@[simp] theorem Registers.reloadBlink_toneStartStb : s.reloadBlink.toneStartStb = s.toneStartStb := rfl
@[simp] theorem Registers.reloadBlink_toneStopStb : s.reloadBlink.toneStopStb = s.toneStopStb := rfl

@[simp] theorem Registers.ofReset_digit (v : InputVec) : (Registers.ofReset v).digit = 0 := rfl
@[simp] theorem Registers.ofReset_isDebouncing (v : InputVec) : (Registers.ofReset v).isDebouncing = ⟨false, false⟩ := rfl
@[simp] theorem Registers.ofReset_irqEn (v : InputVec) : (Registers.ofReset v).irqEn = ⟨true, true⟩ := rfl
@[simp] theorem Registers.ofReset_dbCnt (v : InputVec) : (Registers.ofReset v).dbCnt = ⟨0#6, 0#6⟩ := rfl
@[simp] theorem Registers.ofReset_prevN (v : InputVec) : (Registers.ofReset v).prevN = ⟨InputVec.line v .inc, InputVec.line v .dec⟩ := rfl
@[simp] theorem Registers.ofReset_sil (v : InputVec) : (Registers.ofReset v).sil = 0#200 := rfl
@[simp] theorem Registers.ofReset_blinkCnt (v : InputVec) : (Registers.ofReset v).blinkCnt = 100#7 := rfl
@[simp] theorem Registers.ofReset_statusLed (v : InputVec) : (Registers.ofReset v).statusLed = false := rfl
@[simp] theorem Registers.ofReset_toneOn (v : InputVec) : (Registers.ofReset v).toneOn = false := rfl
@[simp] theorem Registers.ofReset_pwmEn (v : InputVec) : (Registers.ofReset v).pwmEn = false := rfl
@[simp] theorem Registers.ofReset_renderStb (v : InputVec) : (Registers.ofReset v).renderStb = false := rfl
@[simp] theorem Registers.ofReset_toneStartStb (v : InputVec) : (Registers.ofReset v).toneStartStb = false := rfl
@[simp] theorem Registers.ofReset_toneStopStb (v : InputVec) : (Registers.ofReset v).toneStopStb = false := rfl

end registers

section state

variable (s : State) (f : Registers → Registers)

@[simp] theorem State.onRegisters_toRegisters : (s.onRegisters f).toRegisters = f s.toRegisters := rfl
@[simp] theorem State.onRegisters_toEnvironment : (s.onRegisters f).toEnvironment = s.toEnvironment := rfl
@[simp] theorem State.consumeInput_toRegisters : s.consumeInput.toRegisters = s.toRegisters := rfl
@[simp] theorem State.consumeInput_toEnvironment : s.consumeInput.toEnvironment = s.toEnvironment.next := rfl
@[simp] theorem Environment.next_stimulus (e : Environment) : e.next.stimulus = e.stimulus.tail := rfl
@[simp] theorem Environment.next_ticks (e : Environment) : e.next.ticks = e.ticks + 1 := rfl

end state

end Sys2Proof.Machine
end

