-- ==== Sys2Proof/Laws/Word.lean ====
section
/-! SUPPORT. Reading and writing one element of a per-channel field. -/

namespace Sys2Proof

variable {α : Type} (x : PerChannel α) (v : α)

@[simp] theorem PerChannel.get_inc : x.get .inc = x.inc := rfl
@[simp] theorem PerChannel.get_dec : x.get .dec = x.dec := rfl
@[simp] theorem PerChannel.set_inc_inc : (x.set .inc v).inc = v := rfl
@[simp] theorem PerChannel.set_inc_dec : (x.set .inc v).dec = x.dec := rfl
@[simp] theorem PerChannel.set_dec_inc : (x.set .dec v).inc = x.inc := rfl
@[simp] theorem PerChannel.set_dec_dec : (x.set .dec v).dec = v := rfl

@[simp] theorem PerChannel.get_set_same (ch : Channel) : (x.set ch v).get ch = v := by
  cases ch <;> rfl

theorem PerChannel.get_set_other {ch ch' : Channel} (h : ch' ≠ ch) : (x.set ch v).get ch' = x.get ch' := by
  cases ch <;> cases ch' <;> first | rfl | exact absurd rfl h

end Sys2Proof
end

