-- ==== Sys2Proof/Laws/Ops.lean ====
section
/-! SUPPORT. For each shared operation, once, everything it can do. -/

namespace Sys2Proof.Machine

section entryAndReturn

variable (s : Registers) (ch : Channel)

/-- Interrupt entry changes exactly the channel's flag, its enable and its counter (R118). -/
theorem acceptEdge_eq :
    s.acceptEdge ch =
      { s with isDebouncing := s.isDebouncing.set ch true, irqEn := s.irqEn.set ch false, dbCnt := s.dbCnt.set ch 50#6 } :=
  rfl

/-- The return from interrupt changes exactly the same three fields (R80). -/
theorem service_eq :
    s.service ch =
      { s with isDebouncing := s.isDebouncing.set ch false, irqEn := s.irqEn.set ch true, dbCnt := s.dbCnt.set ch 0#6 } :=
  rfl

end entryAndReturn

/-- What follows a digit transition, all of it (R88). -/
theorem afterTransition_eq (s : Registers) :
    s.afterTransition =
      { s with toneOn := true, pwmEn := true, toneStartStb := true, renderStb := true, sil := s.sil ||| (1#200 <<< 199) } :=
  rfl

/-- The thirteen fields of `State.reset` are what a reset step with both lines released leaves (R31; log 3). -/
theorem reset_toRegisters : State.reset.toRegisters = .ofReset 0b111#3 := rfl

/-- The bits of the silence line after a shift (R69). -/
theorem shiftSilence_silAt (s : Registers) {k : Nat} (h : 1 ≤ k) : s.shiftSilence.silAt k = s.silAt (k + 1) := by
  simp [Registers.silAt, BitVec.getLsbD_ushiftRight, show 1 + (k - 1) = k by omega]

/-- Arming sets the last bit of the silence line and no other (R103). -/
theorem armSilence_silAt (s : Registers) {k : Nat} (h : 1 ≤ k) (h' : k ≤ 200) :
    s.armSilence.silAt k = (s.silAt k || decide (k = 200)) := by
  by_cases hk : k = 200
  · subst hk
    simp [Registers.silAt]
  · simp only [Registers.silAt, Registers.armSilence_sil, BitVec.getLsbD_or, BitVec.getLsbD_shiftLeft, hk, decide_false, Bool.or_false]
    simp [show k - 1 < 199 by omega]

/-- The digit moves up one place modulo 10 (R86). -/
theorem incDigit_val (d : Digit) : (incDigit d).val = (d.val + 1) % 10 := rfl

/-- The digit moves down one place modulo 10 (R87). -/
theorem decDigit_val (d : Digit) : (decDigit d).val = (d.val + 9) % 10 := by
  revert d; decide

/-- A debounce counter never wraps (R93). -/
theorem countDownDb_toNat (p : Bool) (c : DbCount) :
    (countDownDb p c).toNat = if p = true then c.toNat - 1 else c.toNat := by
  unfold countDownDb
  cases p
  · simp
  · by_cases h : 0 < c.toNat
    · simp only [h, decide_true, Bool.and_true, if_true]
      bv_omega
    · simp [show c.toNat = 0 by omega]

/-- The blink counter never wraps: above 1 it goes down by one, else it stays (R93). -/
theorem countDownBlinkCount_toNat (c : BlinkCount) :
    (countDownBlinkCount c).toNat = if 1 < c.toNat then c.toNat - 1 else c.toNat := by
  unfold countDownBlinkCount
  split
  · bv_omega
  · rfl

/-- A confirmation is due exactly while the channel is pending with its counter at 1 or 0 (R58). -/
theorem due_iff (s : Registers) (ch : Channel) :
    s.due ch = true ↔ s.isDebouncing.get ch = true ∧ (s.dbCnt.get ch).toNat ≤ 1 := by
  simp [Registers.due, BitVec.ule]

/-- The blink timer fires exactly when its counter is 1 (R60). -/
theorem blinkFires_iff (s : Registers) : s.blinkFires = true ↔ s.blinkCnt.toNat = 1 := by
  simp [Registers.blinkFires, ← BitVec.toNat_inj]

section formed

variable (s : State)

/-- The event word of the coming step, bit by bit (R55 to R60). -/
theorem form_eq :
    s.form =
      .pack s.rst (s.edgeAccepted .dec) (s.edgeAccepted .inc) s.silenceFires s.blinkFires (s.confirmationServiced .dec)
        (s.confirmationServiced .inc) (s.line .dec) (s.line .inc) :=
  rfl

/-- An edge is accepted exactly where the line falls, its interrupt is enabled and its channel is Idle (R57). -/
theorem edgeAccepted_eq (ch : Channel) :
    s.edgeAccepted ch = (s.fall ch && s.irqEn.get ch && !s.isDebouncing.get ch) := rfl
theorem fall_eq (ch : Channel) : s.fall ch = (s.prevN.get ch && !s.line ch) := rfl

@[simp] theorem form_rst : EventWord.rst s.form = s.rst := pack_rst ..
@[simp] theorem form_edge (ch : Channel) : EventWord.edge s.form ch = s.edgeAccepted ch := by
  cases ch
  · exact pack_edge_inc ..
  · exact pack_edge_dec ..
@[simp] theorem form_silenceFires : EventWord.silenceFires s.form = s.silenceFires := pack_silenceFires ..
@[simp] theorem form_blinkFires : EventWord.blinkFires s.form = s.blinkFires := pack_blinkFires ..
@[simp] theorem form_serviced (ch : Channel) : EventWord.serviced s.form ch = s.confirmationServiced ch := by
  cases ch
  · exact pack_serviced_inc ..
  · exact pack_serviced_dec ..
@[simp] theorem form_level (ch : Channel) : EventWord.level s.form ch = s.line ch := by
  cases ch
  · exact pack_level_inc ..
  · exact pack_level_dec ..

end formed

section meanings

variable (s : State) (f g : Registers → Registers)

/-- Operations on the registers run together; the inputs sampled in the step stay what they are. -/
@[simp] theorem onRegisters_onRegisters : (s.onRegisters f).onRegisters g = s.onRegisters fun r => g (f r) := rfl
@[simp] theorem onRegisters_input : (s.onRegisters f).input = s.input := rfl

theorem exec_reset : exec .reset s = .next (s.onRegisters fun _ => .ofReset s.input) := rfl
theorem exec_advance :
    exec .advance s =
      .next (s.onRegisters fun r => (r.clearStrobes.sampleLines s.input).countDownDebounce.shiftSilence.countDownBlink) :=
  rfl
theorem exec_edgeInc : exec .edgeInc s = .next (s.onRegisters fun r => r.acceptEdge .inc) := rfl
theorem exec_edgeDec : exec .edgeDec s = .next (s.onRegisters fun r => r.acceptEdge .dec) := rfl
theorem exec_silence : exec .silence s = .next (s.onRegisters fun r => r.toneStop) := rfl
theorem exec_blink : exec .blink s = .next (s.onRegisters fun r => r.toggleLed.reloadBlink) := rfl
theorem exec_pressInc :
    exec .pressInc s = .next (s.onRegisters fun r => r.onIncrement.afterTransition.service .inc) := rfl
theorem exec_rejectInc : exec .rejectInc s = .next (s.onRegisters fun r => r.service .inc) := rfl
theorem exec_pressDec :
    exec .pressDec s = .next (s.onRegisters fun r => r.onDecrement.afterTransition.service .dec) := rfl
theorem exec_rejectDec : exec .rejectDec s = .next (s.onRegisters fun r => r.service .dec) := rfl
theorem exec_idle : exec .idle s = .next (s.onRegisters fun r => r) := rfl

end meanings

section sequence

variable (s : State)

/-- A bundle with no operation left leaves the working copy. -/
@[simp] theorem runBundle_nil : runBundle [] s = .next s := rfl

/-- A bundle goes on exactly where its first operation answers a next state. -/
theorem runBundle_cons_next {i : Instr} {b : Bundle} {t : State} :
    runBundle (i :: b) s = .next t ↔ ∃ w, exec i s = .next w ∧ runBundle b w = .next t := by
  simp only [runBundle]
  split <;> simp_all

/-- If a step answers a next state, its event word decodes, its bundle ran to the end, and one input vector is used up. -/
theorem stepOnce_next {t : State} (h : stepOnce s = .next t) :
    ∃ b w, decode s.form = .ok b ∧ runBundle b s = .next w ∧ t = w.consumeInput := by
  unfold stepOnce runEvent at h
  split at h
  · rename_i w hw
    split at hw
    · rename_i b hb
      exact ⟨b, w, hb, hw, by simpa [eq_comm] using h⟩
    · cases hw
  · cases h
  · cases h

end sequence

end Sys2Proof.Machine
end

