-- ==== Sys2Proof/Machine/Outputs.lean ====
section
/-! DEFINITION. The table read, the output ports, and the pixel sequence (`20_memory.md`, `10_state.md` section 7,
`43_render_tone.md`). -/

namespace Sys2Proof.Machine

/-- `TblRead(T, d)`: the whole entry `d`; pure, and defined for digits only (R35, R36). -/
def tblRead {α : Type} (table : Digit → α) (d : Digit) : α := table d

/-- A pair of per-channel bits as a 2-bit port, bit `ch` for channel `ch` (R28, R49). -/
def channelBits (x : PerChannel Bool) : BitVec 2 := BitVec.ofBool x.dec ++ BitVec.ofBool x.inc

/-- The output ports (R28). -/
structure Outputs where
  digitO : BitVec 4
  glyphO : GlyphWord
  renderStbO : Bool
  toneOnO : Bool
  toneFreqO : BitVec Config.freqW
  toneStartStbO : Bool
  toneStopStbO : Bool
  pwmEnO : Bool
  statusLedO : Bool
  isDebouncingO : BitVec 2
  irqEnO : BitVec 2
deriving DecidableEq, Repr

/-- The Moore outputs: a function of the state alone (R28, R94, R98). `toneFreqO` means a frequency only while `pwmEnO` (U5). -/
def Registers.outputs (s : Registers) : Outputs where
  digitO := BitVec.ofNat 4 s.digit.val
  glyphO := tblRead Config.glyph s.digit
  renderStbO := s.renderStb
  toneOnO := s.toneOn
  toneFreqO := tblRead Config.tone s.digit
  toneStartStbO := s.toneStartStb
  toneStopStbO := s.toneStopStb
  pwmEnO := s.pwmEn
  statusLedO := s.statusLed
  isDebouncingO := channelBits s.isDebouncing
  irqEnO := channelBits s.irqEn

/-- `out[5:0] = {status_led, tone_on, pwm_en, render_stb, tone_start_stb, tone_stop_stb}`, for test vectors (R54). -/
def Registers.outWord (s : Registers) : BitVec 6 :=
  BitVec.ofBool s.statusLed ++ BitVec.ofBool s.toneOn ++ BitVec.ofBool s.pwmEn ++ BitVec.ofBool s.renderStb ++
    BitVec.ofBool s.toneStartStb ++ BitVec.ofBool s.toneStopStb

/-- The number of the cell in row `row`, column `col` (R37). -/
def pixelIndex (row col : Fin 5) : Fin 25 := ⟨5 * row.val + col.val, by omega⟩

/-- The cell of digit `d`'s glyph in row `row`, column `col` (R37). -/
def glyphCell (d : Digit) (row col : Fin 5) : Bool := (tblRead Config.glyph d).getLsbD (pixelIndex row col).val

/-- `Color(b)` (R38). -/
def color (b : Bool) : ColorWord := if b then Config.colorOn else Config.colorOff

/-- `PixelSeq(d)`: the 25 colour words of the digit's glyph, pixel 0 first, with no index correction (R96, R97). -/
def pixelSeq (d : Digit) : List ColorWord :=
  (List.range 25).map fun p => color ((tblRead Config.glyph d).getLsbD p)

end Sys2Proof.Machine
end

