-- ==== Sys2Proof/Machine/Stimulus.lean ====
section
/-! DEFINITION. The stimulus notation of R65 as data: lines and their expansion into input vectors. -/

namespace Sys2Proof.Machine

/-- One line of a stimulus program (R65; as data, log 18). -/
inductive StimulusLine where
  /-- `IN bbb x n` -/
  | vec (v : InputVec) (n : Nat)
  /-- `RST n` -/
  | rst (n : Nat)
  /-- `RSTI n` -/
  | rsti (n : Nat)
  /-- `REL n` -/
  | rel (n : Nat)
  /-- `INC n` -/
  | inc (n : Nat)
  /-- `DEC n` -/
  | dec (n : Nat)
  /-- `BOTH n` -/
  | both (n : Nat)
deriving DecidableEq, Repr

/-- The vector and the count of the primitive line a line stands for (R65). -/
def StimulusLine.primitive : StimulusLine → InputVec × Nat
  | .vec v n => (v, n)
  | .rst n => (0b111#3, n)
  | .rsti n => (0b110#3, n)
  | .rel n => (0b011#3, n)
  | .inc n => (0b010#3, n)
  | .dec n => (0b001#3, n)
  | .both n => (0b000#3, n)

/-- A line gives at least one step (R65). -/
def StimulusLine.wf (l : StimulusLine) : Bool := decide (1 ≤ l.primitive.2)

/-- The encoding of a program: the input vectors of its steps in order (R65). -/
def expandProgram (p : List StimulusLine) : List InputVec :=
  p.flatMap fun l => List.replicate l.primitive.2 l.primitive.1

/-- `s` with the environment set to apply the program from the next step on. -/
def State.withProgram (s : State) (p : List StimulusLine) : State := { s with stimulus := expandProgram p }

end Sys2Proof.Machine
end

