-- ==== Sys2Proof/Machine/Trace.lean ====
section
/-! DEFINITION. The observable events of a step (R71), for the claims to speak of. -/

namespace Sys2Proof.Machine

/-- Operation `i` is selected in the step that begins in `s` (R61). -/
def State.selects (s : State) (i : Instr) : Bool := i.selectedBy s.form

/-- The press operation of a channel. -/
def pressOf : Channel → Instr
  | .inc => .pressInc
  | .dec => .pressDec

/-- The reject operation of a channel. -/
def rejectOf : Channel → Instr
  | .inc => .rejectInc
  | .dec => .rejectDec

/-- The edge operation of a channel. -/
def edgeOf : Channel → Instr
  | .inc => .edgeInc
  | .dec => .edgeDec

/-- A confirmed press on channel `ch` in the step from `s` (R71). -/
def State.pressConfirmed (s : State) (ch : Channel) : Bool := s.selects (pressOf ch)

/-- A confirmed press on either channel. -/
def State.anyPress (s : State) : Bool := s.pressConfirmed .inc || s.pressConfirmed .dec

/-- A debounce rejection on channel `ch` in the step from `s` (R71). -/
def State.pressRejected (s : State) (ch : Channel) : Bool := s.selects (rejectOf ch)

/-- Channel `ch` is serviced in the step from `s` (R71): `ev[2 + ch] = 1`. -/
def State.servicedNow (s : State) (ch : Channel) : Bool := EventWord.serviced s.form ch

/-- The interrupts of `ch` are re-enabled in the step from `s` to `t` (R71). -/
def irqReenabled (ch : Channel) (s t : State) : Bool := !s.irqEn.get ch && t.irqEn.get ch

/-- The status output toggles in the step from `s` to `t` (R71). -/
def ledToggles (s t : State) : Bool := s.statusLed != t.statusLed

end Sys2Proof.Machine
end

