-- ==== Sys2Proof/Safety.lean ====
section
/-! DEFINITION. The terms safety claims use: the invariants of R30, the reachable states of R32 and R66, and runs without reset. -/

namespace Sys2Proof.Machine

/-- INV2: the line's interrupt is enabled exactly while the channel is Idle (R30). -/
def Registers.irqComplementsPending (s : Registers) : Prop := ∀ ch, s.irqEn.get ch = !s.isDebouncing.get ch

/-- INV3: `db_cnt[ch] <= T_DEBOUNCE`, and 0 while Idle (R30). -/
def Registers.dbCountLegal (s : Registers) : Prop :=
  ∀ ch, (s.dbCnt.get ch).toNat ≤ 50 ∧ (s.isDebouncing.get ch = false → s.dbCnt.get ch = 0)

/-- INV4: `1 <= blink_cnt <= T_BLINK` (R30). -/
def Registers.blinkCountLegal (s : Registers) : Prop := 1 ≤ s.blinkCnt.toNat ∧ s.blinkCnt.toNat ≤ 100

/-- INV6: `tone_on = 1` implies `pwm_en = 1` (R30). -/
def Registers.toneNeedsPwm (s : Registers) : Prop := s.toneOn = true → s.pwmEn = true

/-- INV7 (R30). -/
def Registers.renderMeansStart (s : Registers) : Prop :=
  s.renderStb = s.toneStartStb ∧
    (s.renderStb = true → s.toneOn = true ∧ s.pwmEn = true ∧ s.silAt 200 = true)

/-- INV2, INV3, INV4, INV6 and INV7 of R30 together. INV1 and INV8 hold by the types: a digit below 10, one counter a
channel. INV5 is `Registers.pendingSilences s ≤ 8`, stated of reachable states. -/
def Registers.Inv (s : Registers) : Prop :=
  s.irqComplementsPending ∧ s.dbCountLegal ∧ s.blinkCountLegal ∧ s.toneNeedsPwm ∧ s.renderMeansStart

/-- How many silence timers are pending: the number of set bits of `sil` (R30 INV5). -/
def Registers.pendingSilences (s : Registers) : Nat := ((List.range 200).filter fun k => s.sil.getLsbD k).length

/-- The states of BTNCORE in a run that begins with a reset step, whatever the state before it and whatever the inputs: any
environment may stand beside the registers in any step (R32, R48, R66). -/
inductive Reachable : Registers → Prop where
  | reset {s t : State} : s.rst = true → step s = .next t → Reachable t.toRegisters
  | step {s t : State} : Reachable s.toRegisters → step s = .next t → Reachable t.toRegisters

/-- The coming `m` steps confirm no press of channel `ch`, as its debounce progress shows: a pending channel still has its
counter to run down, and an Idle one must first see an edge, for which its line must first be sampled high (R84). -/
def Registers.farFromPress (s : Registers) (ch : Channel) (m : Nat) : Prop :=
  m ≤ 51 ∧ (s.isDebouncing.get ch = true → m ≤ (s.dbCnt.get ch).toNat - 1) ∧
    (s.isDebouncing.get ch = false → s.prevN.get ch = true → m ≤ 50)

/-- The reason for INV5 as a property of one state: each pending silence timer is laid to a channel's account (`armedBy ch k`:
a press of `ch` armed the timer that fires in `k` steps), the timers of one channel stand at least 52 places apart, and a
channel whose timer at place `k` is young is still that far from its next press (R30 INV5, R84). -/
def Registers.silencesSpaced (s : Registers) : Prop :=
  ∃ armedBy : Channel → Nat → Prop,
    (∀ k, 1 ≤ k → k ≤ 200 → s.silAt k = true → armedBy .inc k ∨ armedBy .dec k) ∧
    (∀ ch k, armedBy ch k → 1 ≤ k ∧ k ≤ 200) ∧
    (∀ ch k l, armedBy ch k → armedBy ch l → k < l → k + 52 ≤ l) ∧
    ∀ ch k, armedBy ch k → s.farFromPress ch (k - 149)

/-- The environment does not assert `rst` in the next `n` steps. -/
def State.noResetFor (s : State) (n : Nat) : Prop := ∀ j, j < n → (s.inputAt j).rst = false

/-- One line of the pseudocode of R66: `if c: call i`, on the working copy the lines before it left. -/
def performIf (c : Bool) (i : Instr) (o : Host.Outcome State Fault Refusal) : Host.Outcome State Fault Refusal :=
  match o with
  | .next w => if c then exec i w else .next w
  | .fault f => .fault f
  | .refused r => .refused r

/-- The end of the pseudocode of R66: the working copy is the next state, its input vector used up. -/
def finishStep (o : Host.Outcome State Fault Refusal) : Host.Outcome State Fault Refusal :=
  match o with
  | .next w => .next w.consumeInput
  | .fault f => .fault f
  | .refused r => .refused r

/-- `n` steps from `s`, ending early at a fault or a refusal; it is `Host.Core.run` of this machine
(`runSteps_eq_hostRun`). -/
def runSteps : Nat → State → Host.Outcome State Fault Refusal
  | 0, s => .next s
  | n + 1, s =>
    match step s with
    | .next t => runSteps n t
    | .fault f => .fault f
    | .refused r => .refused r

end Sys2Proof.Machine
end

