-- ==== Sys2Proof/Certificates/Slice0/Obligations.lean ====
section
/-! DEFINITION. The statements for the provers. Each docstring names the rule or the section of spec/ it comes from. -/

open Sys2Proof Sys2Proof.Machine

/-- R124, R31: `RESET` is selected exactly by `RST = 1`, then alone, and puts every field at its reset value whatever
it was; `prev_n` takes the lines sampled in the reset step, and the digit and glyph outputs are valid at once. The
environment's own fields, the last two, are the model's (log 1) and no part of the reset. -/
def Obligations.ResetPutsEveryFieldAtItsResetValue : Prop :=
  (∀ ev : EventWord, Instr.selectedBy .reset ev = EventWord.rst ev) ∧
  (∀ (ev : EventWord) (i : Instr), EventWord.rst ev = true → Instr.selectedBy i ev = true → i = .reset) ∧
  (∀ s : State, ∃ t : State, exec .reset s = .next t ∧ t.outputs.digitO = 0#4 ∧
    t.outputs.glyphO = tblRead Config.glyph 0) ∧
  ∀ s : State,
    exec .reset s = .next
      { digit := 0, isDebouncing := ⟨false, false⟩, irqEn := ⟨true, true⟩, dbCnt := ⟨0#6, 0#6⟩,
        prevN := ⟨s.input.getLsbD 0, s.input.getLsbD 1⟩, sil := 0#200, blinkCnt := 100#7, statusLed := false,
        toneOn := false, pwmEn := false, renderStb := false, toneStartStb := false, toneStopStb := false,
        stimulus := s.stimulus, ticks := s.ticks }

/-- R69: `ADVANCE` is selected exactly by `RST = 0`; it clears the strobes, samples the lines, counts the pending
channels and the blink counter down without wrapping, and shifts the silence line. Nothing else changes. -/
def Obligations.AdvanceIsThePassingOfOneTimeUnit : Prop :=
  (∀ ev : EventWord, Instr.selectedBy .advance ev = !EventWord.rst ev) ∧
  ∀ s : State, ∃ t : State, exec .advance s = .next t ∧
    t.renderStb = false ∧ t.toneStartStb = false ∧ t.toneStopStb = false ∧
    (∀ ch, t.prevN.get ch = s.input.getLsbD ch.index) ∧
    (∀ ch, t.dbCnt.get ch =
      if s.isDebouncing.get ch = true ∧ 0 < (s.dbCnt.get ch).toNat then s.dbCnt.get ch - 1 else s.dbCnt.get ch) ∧
    (∀ k, 1 ≤ k → k ≤ 199 → t.silAt k = s.silAt (k + 1)) ∧ t.silAt 200 = false ∧
    t.blinkCnt = (if 1 < s.blinkCnt.toNat then s.blinkCnt - 1 else s.blinkCnt) ∧
    t.digit = s.digit ∧ t.isDebouncing = s.isDebouncing ∧ t.irqEn = s.irqEn ∧ t.statusLed = s.statusLed ∧
    t.toneOn = s.toneOn ∧ t.pwmEn = s.pwmEn ∧ t.stimulus = s.stimulus ∧ t.ticks = s.ticks

/-- R70: `IDLE` is selected exactly when no selector bit is set, whatever the levels, and leaves the working copy. -/
def Obligations.IdleLeavesTheWorkingCopy : Prop :=
  (∀ ev : EventWord, Instr.selectedBy .idle ev = true ↔
    EventWord.rst ev = false ∧ (∀ ch, EventWord.edge ev ch = false) ∧ EventWord.silenceFires ev = false ∧
      EventWord.blinkFires ev = false ∧ ∀ ch, EventWord.serviced ev ch = false) ∧
  ∀ s : State, exec .idle s = .next s

/-- R74: `EDGE.INC`: when it is selected, that it never shares a step with a confirmation of its own channel, what it
does (exactly the channel's flag, enable and counter change, R118), and that a step that selects it ends so. -/
def Obligations.EdgeIncStartsTheIncrementWindow : Prop :=
  (∀ ev : EventWord, Instr.selectedBy .edgeInc ev = (!EventWord.rst ev && EventWord.edge ev .inc)) ∧
  (∀ s : State, s.selects .edgeInc = (!s.input.getLsbD 2 &&
    (s.prevN.inc && !s.input.getLsbD 0 && s.irqEn.inc && !s.isDebouncing.inc))) ∧
  (∀ s : State, s.selects .edgeInc = true → s.selects .pressInc = false ∧ s.selects .rejectInc = false ∧
    ∃ t : State, step s = .next t ∧ t.isDebouncing.inc = true ∧ t.irqEn.inc = false ∧ t.dbCnt.inc = 50#6 ∧
      t.prevN.inc = false) ∧
  ∀ s : State,
    exec .edgeInc s = .next
      { s with
        isDebouncing := { s.isDebouncing with inc := true }
        irqEn := { s.irqEn with inc := false }
        dbCnt := { s.dbCnt with inc := 50#6 } }

/-- R75: `EDGE.DEC`: as `EDGE.INC` with the channels exchanged. -/
def Obligations.EdgeDecStartsTheDecrementWindow : Prop :=
  (∀ ev : EventWord, Instr.selectedBy .edgeDec ev = (!EventWord.rst ev && EventWord.edge ev .dec)) ∧
  (∀ s : State, s.selects .edgeDec = (!s.input.getLsbD 2 &&
    (s.prevN.dec && !s.input.getLsbD 1 && s.irqEn.dec && !s.isDebouncing.dec))) ∧
  (∀ s : State, s.selects .edgeDec = true → s.selects .pressDec = false ∧ s.selects .rejectDec = false ∧
    ∃ t : State, step s = .next t ∧ t.isDebouncing.dec = true ∧ t.irqEn.dec = false ∧ t.dbCnt.dec = 50#6 ∧
      t.prevN.dec = false) ∧
  ∀ s : State,
    exec .edgeDec s = .next
      { s with
        isDebouncing := { s.isDebouncing with dec := true }
        irqEn := { s.irqEn with dec := false }
        dbCnt := { s.dbCnt with dec := 50#6 } }

/-- R82: `REJECT.INC` returns the channel to Idle with its interrupt on; nothing else changes. A step that selects it
makes no render, no tone start and no silence timer, and leaves the digit. -/
def Obligations.RejectIncOnlyReturnsTheChannelToIdle : Prop :=
  (∀ ev : EventWord, Instr.selectedBy .rejectInc ev =
    (!EventWord.rst ev && EventWord.serviced ev .inc && EventWord.level ev .inc)) ∧
  (∀ s : State, s.selects .rejectInc = true → ∃ t : State, step s = .next t ∧
    t.isDebouncing.inc = false ∧ t.irqEn.inc = true ∧ t.dbCnt.inc = 0#6 ∧ t.digit = s.digit ∧ t.pwmEn = s.pwmEn ∧
    t.renderStb = false ∧ t.toneStartStb = false ∧ t.silAt 200 = false) ∧
  ∀ s : State,
    exec .rejectInc s = .next
      { s with
        irqEn := { s.irqEn with inc := true }
        isDebouncing := { s.isDebouncing with inc := false }
        dbCnt := { s.dbCnt with inc := 0#6 } }

/-- R83: `REJECT.DEC`: as `REJECT.INC` with the channels exchanged. -/
def Obligations.RejectDecOnlyReturnsTheChannelToIdle : Prop :=
  (∀ ev : EventWord, Instr.selectedBy .rejectDec ev =
    (!EventWord.rst ev && EventWord.serviced ev .dec && EventWord.level ev .dec)) ∧
  (∀ s : State, s.selects .rejectDec = true → ∃ t : State, step s = .next t ∧
    t.isDebouncing.dec = false ∧ t.irqEn.dec = true ∧ t.dbCnt.dec = 0#6 ∧ t.digit = s.digit ∧ t.pwmEn = s.pwmEn ∧
    t.renderStb = false ∧ t.toneStartStb = false ∧ t.silAt 200 = false) ∧
  ∀ s : State,
    exec .rejectDec s = .next
      { s with
        irqEn := { s.irqEn with dec := true }
        isDebouncing := { s.isDebouncing with dec := false }
        dbCnt := { s.dbCnt with dec := 0#6 } }

/-- R89: `PRESS.INC`: the digit up by one modulo 10, tone and render requested, a silence timer armed beside the
pending ones, the channel returned to Idle; nothing else changes. A step that selects it ends with the tone on,
whether or not a timer's stop falls in it; the outputs follow the new digit; a Decrement confirmation due with it is
serviced in the next step. -/
def Obligations.PressIncMovesTheDigitUpAndRequestsToneAndRender : Prop :=
  (∀ ev : EventWord, Instr.selectedBy .pressInc ev =
    (!EventWord.rst ev && EventWord.serviced ev .inc && !EventWord.level ev .inc)) ∧
  (∀ s : State, s.selects .pressInc = true → ∃ t : State, step s = .next t ∧
    t.digit.val = (s.digit.val + 1) % 10 ∧ t.toneOn = true ∧ t.pwmEn = true ∧ t.toneStartStb = true ∧ t.renderStb = true ∧
    t.toneStopStb = s.selects .silence ∧ t.silAt 200 = true ∧ (∀ k, 1 ≤ k → k ≤ 199 → t.silAt k = s.silAt (k + 1)) ∧
    t.isDebouncing.inc = false ∧ t.irqEn.inc = true ∧ t.outputs.glyphO = tblRead Config.glyph t.digit ∧
    t.outputs.toneFreqO = tblRead Config.tone t.digit ∧ (s.due .dec = true → t.servicedNow .dec = true)) ∧
  ∀ s : State, ∃ t : State, exec .pressInc s = .next t ∧
    t.digit.val = (s.digit.val + 1) % 10 ∧ t.toneOn = true ∧ t.pwmEn = true ∧ t.toneStartStb = true ∧ t.renderStb = true ∧
    t.silAt 200 = true ∧ (∀ k, 1 ≤ k → k ≤ 199 → t.silAt k = s.silAt k) ∧
    t.irqEn = { s.irqEn with inc := true } ∧ t.isDebouncing = { s.isDebouncing with inc := false } ∧
    t.dbCnt = { s.dbCnt with inc := 0#6 } ∧
    t.prevN = s.prevN ∧ t.blinkCnt = s.blinkCnt ∧ t.statusLed = s.statusLed ∧ t.toneStopStb = s.toneStopStb ∧
    t.stimulus = s.stimulus ∧ t.ticks = s.ticks

/-- R90: `PRESS.DEC`: as `PRESS.INC` with the digit down by one modulo 10 and the channels exchanged. It is never
selected while Increment's confirmation is due. -/
def Obligations.PressDecMovesTheDigitDownAndRequestsToneAndRender : Prop :=
  (∀ ev : EventWord, Instr.selectedBy .pressDec ev =
    (!EventWord.rst ev && EventWord.serviced ev .dec && !EventWord.level ev .dec)) ∧
  (∀ s : State, s.selects .pressDec = true → ∃ t : State, step s = .next t ∧
    t.digit.val = (s.digit.val + 9) % 10 ∧ t.toneOn = true ∧ t.pwmEn = true ∧ t.toneStartStb = true ∧ t.renderStb = true ∧
    t.toneStopStb = s.selects .silence ∧ t.silAt 200 = true ∧ (∀ k, 1 ≤ k → k ≤ 199 → t.silAt k = s.silAt (k + 1)) ∧
    t.isDebouncing.dec = false ∧ t.irqEn.dec = true ∧ t.outputs.glyphO = tblRead Config.glyph t.digit ∧
    t.outputs.toneFreqO = tblRead Config.tone t.digit ∧ s.due .inc = false) ∧
  ∀ s : State, ∃ t : State, exec .pressDec s = .next t ∧
    t.digit.val = (s.digit.val + 9) % 10 ∧ t.toneOn = true ∧ t.pwmEn = true ∧ t.toneStartStb = true ∧ t.renderStb = true ∧
    t.silAt 200 = true ∧ (∀ k, 1 ≤ k → k ≤ 199 → t.silAt k = s.silAt k) ∧
    t.irqEn = { s.irqEn with dec := true } ∧ t.isDebouncing = { s.isDebouncing with dec := false } ∧
    t.dbCnt = { s.dbCnt with dec := 0#6 } ∧
    t.prevN = s.prevN ∧ t.blinkCnt = s.blinkCnt ∧ t.statusLed = s.statusLed ∧ t.toneStopStb = s.toneStopStb ∧
    t.stimulus = s.stimulus ∧ t.ticks = s.ticks

/-- R104: `SILENCE` stops the tone and leaves the peripheral enabled; nothing else changes. A step that selects it
uses its timer up, and ends with the tone on exactly where a press of the same step starts it again, with a new timer
armed. -/
def Obligations.SilenceStopsTheToneAndKeepsThePeripheral : Prop :=
  (∀ ev : EventWord, Instr.selectedBy .silence ev = (!EventWord.rst ev && EventWord.silenceFires ev)) ∧
  (∀ s : State, s.selects .silence = true → ∃ t : State, step s = .next t ∧ t.toneStopStb = true ∧
    t.toneOn = s.anyPress ∧ t.silAt 200 = s.anyPress ∧ (∀ k, 1 ≤ k → k ≤ 199 → t.silAt k = s.silAt (k + 1)) ∧
    t.pwmEn = (s.anyPress || s.pwmEn)) ∧
  ∀ s : State, exec .silence s = .next { s with toneOn := false, toneStopStb := true }

/-- R109: `BLINK` inverts the status output and reloads the counter; nothing else changes, and no other operation of
the step changes what it does. -/
def Obligations.BlinkInvertsTheStatusOutput : Prop :=
  (∀ ev : EventWord, Instr.selectedBy .blink ev = (!EventWord.rst ev && EventWord.blinkFires ev)) ∧
  (∀ s : State, s.selects .blink = true → ∃ t : State, step s = .next t ∧ t.statusLed = !s.statusLed ∧ t.blinkCnt = 100#7) ∧
  ∀ s : State, exec .blink s = .next { s with statusLed := !s.statusLed, blinkCnt := 100#7 }

/-- R61: what an event word selects, row by row: only `RESET` when `RST = 1`; otherwise always `ADVANCE`, and `IDLE`
exactly when none of the eight event rows is selected. -/
def Obligations.EveryRowIsSelectedByItsOwnBits : Prop :=
  ∀ ev : EventWord,
    (EventWord.rst ev = true → select ev = [.reset]) ∧
    (EventWord.rst ev = false →
      .reset ∉ select ev ∧ .advance ∈ select ev ∧
      (.edgeInc ∈ select ev ↔ EventWord.edge ev .inc = true) ∧ (.edgeDec ∈ select ev ↔ EventWord.edge ev .dec = true) ∧
      (.silence ∈ select ev ↔ EventWord.silenceFires ev = true) ∧ (.blink ∈ select ev ↔ EventWord.blinkFires ev = true) ∧
      (.pressInc ∈ select ev ↔ EventWord.serviced ev .inc = true ∧ EventWord.level ev .inc = false) ∧
      (.rejectInc ∈ select ev ↔ EventWord.serviced ev .inc = true ∧ EventWord.level ev .inc = true) ∧
      (.pressDec ∈ select ev ↔ EventWord.serviced ev .dec = true ∧ EventWord.level ev .dec = false) ∧
      (.rejectDec ∈ select ev ↔ EventWord.serviced ev .dec = true ∧ EventWord.level ev .dec = true) ∧
      (.idle ∈ select ev ↔
        .edgeInc ∉ select ev ∧ .edgeDec ∉ select ev ∧ .silence ∉ select ev ∧ .blink ∉ select ev ∧
        .pressInc ∉ select ev ∧ .rejectInc ∉ select ev ∧ .pressDec ∉ select ev ∧ .rejectDec ∉ select ev))

/-- `30_encoding.md` section 5: a reserved word is refused by name and given no meaning, and no other word is refused.
That the patterns are tested whatever `RST` is, is the model's reading (log 6). -/
def Obligations.ExactlyTheReservedWordsAreRefused : Prop :=
  ∀ ev : EventWord,
    ((EventWord.serviced ev .inc = true ∧ EventWord.serviced ev .dec = true) ∨
      (∃ ch, EventWord.edge ev ch = true ∧ (EventWord.serviced ev ch = true ∨ EventWord.level ev ch = true)) →
      ∃ e, ∀ s : State, runEvent ev s = .refused (.reservedEventWord e)) ∧
    (¬ ((EventWord.serviced ev .inc = true ∧ EventWord.serviced ev .dec = true) ∨
      (∃ ch, EventWord.edge ev ch = true ∧ (EventWord.serviced ev ch = true ∨ EventWord.level ev ch = true))) →
      decode ev = .ok (select ev))

/-- `30_encoding.md` sections 3 and 4: decode and encode agree: the event word encoded from a well-formed bundle, at
line levels that fit it, decodes to that bundle and carries those levels. -/
def Obligations.DecodeOfEncodeIsTheBundle : Prop :=
  ∀ (b : Bundle) (ld li : Bool), Bundle.wf b = true → Bundle.fitsLevels b ld li = true →
    decode (encode b ld li) = .ok b ∧ EventWord.level (encode b ld li) .dec = ld ∧ EventWord.level (encode b ld li) .inc = li

/-- `30_encoding.md` sections 3 and 4: every bundle the decoder answers is well formed and fits the word's levels, and
a word that is no reset word is the encoding of its bundle. -/
def Obligations.EncodeOfDecodeIsTheWord : Prop :=
  ∀ (ev : EventWord) (b : Bundle), decode ev = .ok b →
    Bundle.wf b = true ∧ Bundle.fitsLevels b (EventWord.level ev .dec) (EventWord.level ev .inc) = true ∧
    (EventWord.rst ev = false → encode b (EventWord.level ev .dec) (EventWord.level ev .inc) = ev)

/-- `95_test_vectors.md` section 2.9: a few event words written out, with the operations they select. -/
def Obligations.SampleEventWordsDecode : Prop :=
  decode 0x003#9 = .ok [.advance, .idle] ∧ decode 0x042#9 = .ok [.advance, .edgeInc] ∧
  decode 0x081#9 = .ok [.advance, .edgeDec] ∧ decode 0x026#9 = .ok [.advance, .silence, .pressInc] ∧
  decode 0x033#9 = .ok [.advance, .silence, .blink] ∧ decode 0x005#9 = .ok [.advance, .rejectInc] ∧
  decode 0x009#9 = .ok [.advance, .pressDec] ∧ decode 0x00A#9 = .ok [.advance, .rejectDec] ∧
  decode 0x13B#9 = .ok [.reset]

/-- R56 to R60: every bit of the event word, formed from the pre-state and the sampled inputs. -/
def Obligations.EventWordBitsAreFormedFromStateAndInputs : Prop :=
  ∀ s : State,
    s.form.getLsbD 8 = s.input.getLsbD 2 ∧ s.form.getLsbD 1 = s.input.getLsbD 1 ∧ s.form.getLsbD 0 = s.input.getLsbD 0 ∧
    (∀ ch : Channel, s.form.getLsbD (6 + ch.index) =
      ((s.prevN.get ch && !s.input.getLsbD ch.index) && s.irqEn.get ch && !s.isDebouncing.get ch)) ∧
    s.form.getLsbD 2 = (s.isDebouncing.inc && decide (s.dbCnt.inc.toNat ≤ 1)) ∧
    s.form.getLsbD 3 = ((s.isDebouncing.dec && decide (s.dbCnt.dec.toNat ≤ 1)) &&
      !(s.isDebouncing.inc && decide (s.dbCnt.inc.toNat ≤ 1))) ∧
    s.form.getLsbD 5 = s.silAt 1 ∧ s.form.getLsbD 4 = decide (s.blinkCnt = 1#7)

/-- `30_encoding.md` section 5: formation never produces a reserved event word. It holds here of every state, not only
where the invariants do. -/
def Obligations.FormationNeverMakesAReservedWord : Prop :=
  ∀ s : State, reservedPattern s.form = none

/-- `40_step.md` section 1: a step runs the operations its event word decodes to, then uses up its input vector
(`State.consumeInput`, the model's own, log 1). -/
def Obligations.StepRunsTheDecodedBundle : Prop :=
  ∀ (s : State) (b : Bundle), decode s.form = .ok b → step s = finishStep (runBundle b s)

/-- `40_step.md` section 1: the step is the pseudocode of the step function, line by line and in its order. That the step
then uses up one input vector (`finishStep`) is the model's own choice (log 1). -/
def Obligations.StepPerformsTheSelectedOperationsInOrder : Prop :=
  ∀ s : State,
    step s =
      if s.form.getLsbD 8 then finishStep (exec .reset s)
      else
        finishStep
          (performIf (s.form.getLsbD 3 && s.form.getLsbD 1) .rejectDec
          (performIf (s.form.getLsbD 3 && !s.form.getLsbD 1) .pressDec
          (performIf (s.form.getLsbD 2 && s.form.getLsbD 0) .rejectInc
          (performIf (s.form.getLsbD 2 && !s.form.getLsbD 0) .pressInc
          (performIf (s.form.getLsbD 4) .blink
          (performIf (s.form.getLsbD 5) .silence
          (performIf (s.form.getLsbD 7) .edgeDec
          (performIf (s.form.getLsbD 6) .edgeInc
          (exec .advance s)))))))))

/-- `60_exceptions.md` section 1, `40_step.md` section 1: the step is total. Every state and every input vector have a
next state: no fault, no refusal. -/
def Obligations.EveryStepAnswersANextState : Prop :=
  ∀ s : State, ∃ t : State, step s = .next t

/-- The model's own (log 1, log 2): a step uses up one input vector and leaves the later ones as they were. -/
def Obligations.EveryStepReadsTheNextInputVector : Prop :=
  ∀ s : State, ∃ t : State, step s = .next t ∧ ∀ j, t.inputAt j = s.inputAt (j + 1)

/-- The model's own (log 13): a state prepared for a word that is not reserved forms exactly that word in its next
step. -/
def Obligations.PreparedStateFormsTheWord : Prop :=
  ∀ (s : State) (nbits w : Nat), w < 512 → reservedPattern (BitVec.ofNat 9 w) = none →
    (s.withFetchWord nbits w).form = BitVec.ofNat 9 w

/-- `10_state.md` section 10: after a step with `rst = 1` the state is the reset state, whatever it was before. The last two
fields, which are the environment's, are the model's own choice (log 1). -/
def Obligations.AfterAResetStepTheStateIsTheResetState : Prop :=
  ∀ s : State, s.input.getLsbD 2 = true →
    step s = .next
      { digit := 0, isDebouncing := ⟨false, false⟩, irqEn := ⟨true, true⟩, dbCnt := ⟨0#6, 0#6⟩,
        prevN := ⟨s.input.getLsbD 0, s.input.getLsbD 1⟩, sil := 0#200, blinkCnt := 100#7, statusLed := false,
        toneOn := false, pwmEn := false, renderStb := false, toneStartStb := false, toneStopStb := false,
        stimulus := s.stimulus.tail, ticks := s.ticks + 1 }

/-- `10_state.md` section 9, whose invariants the spec marks as derived: INV2, INV3, INV4, INV6 and INV7 hold at
`State.reset`. None of them reads `prev_n`, whose value there is the model's choice (log 3). -/
def Obligations.ResetStateMeetsTheInvariants : Prop := State.reset.Inv

/-- `10_state.md` section 9, whose invariants the spec marks as derived: every step keeps INV2, INV3, INV4, INV6 and
INV7 together. -/
def Obligations.EveryStepKeepsTheInvariants : Prop :=
  ∀ s t : State, s.Inv → step s = .next t → t.Inv

/-- `10_state.md` section 9, whose invariants the spec marks as derived: every state of a run that begins with a reset
step meets INV2, INV3, INV4, INV6, INV7, and INV5: at most 8 silence timers are pending. -/
def Obligations.AtMostEightSilenceTimersArePending : Prop :=
  ∀ r : Registers, Reachable r → r.Inv ∧ r.pendingSilences ≤ 8

/-- R91: the digit changes only in a confirmed press, by one place, or in a reset. -/
def Obligations.TheDigitMovesOnlyOnAConfirmedPress : Prop :=
  ∀ s : State, ∃ t : State, step s = .next t ∧
    t.digit.val =
      if s.rst = true then 0
      else if s.pressConfirmed .inc = true then (s.digit.val + 1) % 10
      else if s.pressConfirmed .dec = true then (s.digit.val + 9) % 10
      else s.digit.val

/-- R72: the transitions of a channel's debounce state, complete; the line's interrupt moves with them (R25). -/
def Obligations.ChannelStateMovesOnlyOnEdgeServiceOrReset : Prop :=
  ∀ (s : State) (ch : Channel), ∃ t : State, step s = .next t ∧
    t.isDebouncing.get ch =
      (if s.rst = true then false
      else if s.edgeAccepted ch = true then true
      else if s.confirmationServiced ch = true then false
      else s.isDebouncing.get ch) ∧
    t.irqEn.get ch =
      (if s.rst = true then true
      else if s.edgeAccepted ch = true then false
      else if s.confirmationServiced ch = true then true
      else s.irqEn.get ch)

/-- `10_state.md` section 2: the debounce counter: loaded with 50 by the edge, down by one a step while pending and
above 0, 0 when serviced or reset, and else unchanged (in states no run reaches, by the pseudocode of `ADVANCE`: log
12). -/
def Obligations.DebounceCounterLoadsCountsAndStops : Prop :=
  ∀ (s : State) (ch : Channel), ∃ t : State, step s = .next t ∧
    (t.dbCnt.get ch).toNat =
      if s.rst = true then 0
      else if s.edgeAccepted ch = true then 50
      else if s.confirmationServiced ch = true then 0
      else if s.isDebouncing.get ch = true then (s.dbCnt.get ch).toNat - 1
      else (s.dbCnt.get ch).toNat

/-- `10_state.md` sections 2 and 4: the blink counter goes down by one where it is above 1, is reloaded with 100 in
the step in which it equals 1, where alone the status output toggles, and is 100 after a reset. (At 0, which no run
reaches, it stays, by the pseudocode of `ADVANCE`: log 12.) -/
def Obligations.BlinkCounterCountsDownAndReloads : Prop :=
  ∀ s : State, ∃ t : State, step s = .next t ∧
    t.blinkCnt.toNat =
      (if s.rst = true then 100
      else if 1 < s.blinkCnt.toNat then s.blinkCnt.toNat - 1
      else if s.blinkCnt.toNat = 1 then 100
      else 0) ∧
    t.statusLed =
      (if s.rst = true then false else if s.blinkCnt.toNat = 1 then !s.statusLed else s.statusLed)

/-- `10_state.md` section 4: the tone's enable flag and the peripheral's: start wins over a stop of the same step; the
peripheral, once enabled, stays so until a reset. -/
def Obligations.ToneFlagsFollowStartStopAndReset : Prop :=
  ∀ s : State, ∃ t : State, step s = .next t ∧
    t.toneOn =
      (if s.rst = true then false
      else if s.anyPress = true then true
      else if s.silAt 1 = true then false
      else s.toneOn) ∧
    t.pwmEn = (!s.rst && (s.anyPress || s.pwmEn))

/-- R24: each strobe is 1 after a step exactly when its call was made in that step. -/
def Obligations.StrobesReportExactlyTheCallsOfTheStep : Prop :=
  ∀ s : State, ∃ t : State, step s = .next t ∧
    t.renderStb = s.anyPress ∧ t.toneStartStb = s.anyPress ∧ t.toneStopStb = s.selects .silence

/-- R26: `prev_n` takes the sampled lines in every step, a reset step too. -/
def Obligations.PreviousSampleTracksTheLineInEveryStep : Prop :=
  ∀ (s : State) (ch : Channel), ∃ t : State, step s = .next t ∧ t.prevN.get ch = s.input.getLsbD ch.index

/-- R103: the silence line after a step: shifted one place, with bit 200 set exactly by a confirmed press; empty after
a reset. -/
def Obligations.SilenceLineShiftsAndIsArmedByAPress : Prop :=
  ∀ s : State, ∃ t : State, step s = .next t ∧
    t.silAt 200 = s.anyPress ∧ ∀ k, 1 ≤ k → k ≤ 199 → t.silAt k = (!s.rst && s.silAt (k + 1))

/-- `40_step.md` section 4 with `41_debounce.md` section 3: under the invariants and outside a reset, a line's
interrupts are re-enabled in a step exactly when its channel is serviced in it, and the status output toggles exactly
when `BLINK` is performed. -/
def Obligations.InterruptsAreReenabledExactlyByTheService : Prop :=
  ∀ (s : State) (ch : Channel), s.Inv → s.rst = false → ∃ t : State, step s = .next t ∧
    irqReenabled ch s t = s.servicedNow ch ∧ ledToggles s t = s.selects .blink

/-- R76: a falling edge on a line whose interrupt is disabled is ignored: no edge is accepted, nothing is armed, and
after the step nothing of it is remembered but the sampled level. The state after the step equals the one after the
same step with the line low in the previous sample too. An edge that falls in the very step of the channel's service
is no edge either, and the level it produces makes that confirmation a press. -/
def Obligations.EdgeOnADisabledLineIsDropped : Prop :=
  (∀ (s : State) (ch : Channel), s.irqEn.get ch = false →
    EventWord.edge s.form ch = false ∧ s.selects (edgeOf ch) = false ∧
    step s = step { s with prevN := s.prevN.set ch false }) ∧
  ∀ (s : State) (ch : Channel), s.rst = false → s.fall ch = true → s.confirmationServiced ch = true →
    s.selects (edgeOf ch) = false ∧ s.pressConfirmed ch = true

/-- R81: a serviced confirmation is a press exactly when the line reads 0 in that step, and a rejection exactly when
it reads 1; the earlier samples play no part. -/
def Obligations.ServiceIsAPressExactlyWhenTheLineIsLow : Prop :=
  ∀ (s : State) (ch : Channel), s.rst = false → s.confirmationServiced ch = true →
    s.pressConfirmed ch = !s.input.getLsbD ch.index ∧ s.pressRejected ch = s.input.getLsbD ch.index

/-- R79: of two confirmations due together Increment's is serviced and Decrement's waits one step, in PendingConfirm
with its counter at 0, and is serviced in the next step, on the level sampled there. -/
def Obligations.ArbiterServicesIncrementThenDecrement : Prop :=
  ∀ s : State, s.rst = false → s.due .inc = true → s.due .dec = true →
    s.servicedNow .inc = true ∧ s.servicedNow .dec = false ∧
    ∃ t : State, step s = .next t ∧ t.isDebouncing.inc = false ∧ t.isDebouncing.dec = true ∧ t.dbCnt.dec = 0#6 ∧
      t.servicedNow .inc = false ∧ t.servicedNow .dec = true ∧
      (t.rst = false → t.pressConfirmed .dec = !t.input.getLsbD 1)

/-- `41_debounce.md` section 2: the two engines are independent. What a step does to a channel's own fields depends on
those fields, on the channel's line and on `rst`, and for Decrement on whether the arbiter holds it over. -/
def Obligations.ChannelsDoNotDisturbEachOther : Prop :=
  ∀ (ch : Channel) (s s' : State),
    s.rst = s'.rst → s.input.getLsbD ch.index = s'.input.getLsbD ch.index →
    s.isDebouncing.get ch = s'.isDebouncing.get ch → s.irqEn.get ch = s'.irqEn.get ch →
    s.dbCnt.get ch = s'.dbCnt.get ch → s.prevN.get ch = s'.prevN.get ch → (ch = .dec → s.due .inc = s'.due .inc) →
    ∃ t t' : State, step s = .next t ∧ step s' = .next t' ∧
      t.isDebouncing.get ch = t'.isDebouncing.get ch ∧ t.irqEn.get ch = t'.irqEn.get ch ∧
      t.dbCnt.get ch = t'.dbCnt.get ch ∧ t.prevN.get ch = t'.prevN.get ch

/-- `40_step.md` section 1, `43_render_tone.md` section 2: when a stop and a start fall in one step the stop comes
first: the tone ends the step on and both strobes are set; a new silence timer is armed. -/
def Obligations.StopThenStartLeavesTheToneOn : Prop :=
  ∀ s : State, s.silAt 1 = true → s.anyPress = true →
    ∃ t : State, step s = .next t ∧ t.toneOn = true ∧ t.toneStopStb = true ∧ t.toneStartStb = true ∧ t.renderStb = true ∧
      t.silAt 200 = true

/-- `42_application.md` section 2, in part an inference the spec marks as its own: the digit arithmetic: `k` presses
move the digit by `k` modulo 10, ten return it, and the two transitions are inverse to each other. -/
def Obligations.DigitTransitionsObeyTheCycleLaws : Prop :=
  (∀ (k : Nat) (s : State), ∃ t u : State,
    runBundle (List.replicate k .pressInc) s = .next t ∧ t.digit.val = (s.digit.val + k) % 10 ∧
    runBundle (List.replicate k .pressDec) s = .next u ∧ u.digit.val = (s.digit.val + 9 * k) % 10) ∧
  (∀ s : State, ∃ t u : State,
    runBundle (List.replicate 10 .pressInc) s = .next t ∧ t.digit = s.digit ∧
    runBundle (List.replicate 10 .pressDec) s = .next u ∧ u.digit = s.digit) ∧
  ∀ s : State, ∃ t u : State,
    runBundle [.pressInc, .pressDec] s = .next t ∧ t.digit = s.digit ∧
    runBundle [.pressDec, .pressInc] s = .next u ∧ u.digit = s.digit

/-- R28: every output port is the given function of the state. -/
def Obligations.OutputsAreFunctionsOfTheState : Prop :=
  ∀ s : State,
    s.outputs.digitO.toNat = s.digit.val ∧ s.outputs.glyphO = tblRead Config.glyph s.digit ∧
    s.outputs.toneFreqO = tblRead Config.tone s.digit ∧ s.outputs.renderStbO = s.renderStb ∧
    s.outputs.toneOnO = s.toneOn ∧ s.outputs.toneStartStbO = s.toneStartStb ∧ s.outputs.toneStopStbO = s.toneStopStb ∧
    s.outputs.pwmEnO = s.pwmEn ∧ s.outputs.statusLedO = s.statusLed ∧
    ∀ ch : Channel, s.outputs.isDebouncingO.getLsbD ch.index = s.isDebouncing.get ch ∧
      s.outputs.irqEnO.getLsbD ch.index = s.irqEn.get ch

/-- `43_render_tone.md` section 1, where the spec marks the injectivity as derived: the pixel sequence has 25 colour
words, pixel `p` white exactly where cell `p` of the glyph is on and black elsewhere, and no two digits share a
sequence. -/
def Obligations.PixelSequenceIsTheGlyphAndTellsDigitsApart : Prop :=
  (∀ d : Digit, (pixelSeq d).length = 25 ∧
    ∀ p, p < 25 → (pixelSeq d)[p]? =
      some (if (tblRead Config.glyph d).getLsbD p = true then 0xFFFFFF#24 else 0x000000#24)) ∧
  ∀ d d' : Digit, pixelSeq d = pixelSeq d' → d = d'

/-- `10_state.md` section 2: bit `k` of the silence line is 1 exactly when a silence timer fires in the `k`-th step
from now, the coming step being the first, as long as no reset comes between. -/
def Obligations.SilenceBitSaysWhenItsTimerFires : Prop :=
  ∀ (s : State) (k : Nat), 1 ≤ k → k ≤ 200 → s.noResetFor (k - 1) →
    ∃ t : State, runSteps (k - 1) s = .next t ∧ t.silenceFires = s.silAt k

/-- `44_timers.md` section 1, an inference the spec marks as its own ("If `PRESS.<ch>` is performed in step `c`,
..."): a press confirmed in step `c` brings a `SILENCE` in step `c + 200` unless a reset intervenes, whatever presses
come between: the tone then sounding is cut, unless a press of that very step starts it again. -/
def Obligations.PressIsSilencedExactlyTwoHundredStepsLater : Prop :=
  ∀ s : State, s.anyPress = true → s.noResetFor 201 →
    ∃ t u : State, runSteps 200 s = .next t ∧ t.selects .silence = true ∧ step t = .next u ∧
      u.toneStopStb = true ∧ u.toneOn = t.anyPress

/-- `41_debounce.md` section 4, an inference the spec marks as its own: an edge accepted in step `c` is serviced in
step `c + 50`, and a Decrement confirmation that collides with an Increment confirmation in step `c + 51`; until then
the channel is in PendingConfirm with its interrupt disabled. -/
def Obligations.AcceptedEdgeIsServicedFiftyStepsLater : Prop :=
  ∀ (s : State) (ch : Channel), s.edgeAccepted ch = true → s.noResetFor 51 →
    (∀ j, 1 ≤ j → j ≤ 50 → ∃ t : State, runSteps j s = .next t ∧ t.isDebouncing.get ch = true ∧
      t.irqEn.get ch = false ∧ (t.dbCnt.get ch).toNat = 51 - j ∧ (j < 50 → t.servicedNow ch = false)) ∧
    ∃ t u : State, runSteps 50 s = .next t ∧ step t = .next u ∧
      (ch = .inc ∨ t.due .inc = false → t.servicedNow ch = true ∧ u.isDebouncing.get ch = false ∧ u.irqEn.get ch = true) ∧
      (ch = .dec ∧ t.due .inc = true → t.servicedNow ch = false ∧ u.isDebouncing.get ch = true ∧ u.irqEn.get ch = false ∧
        u.servicedNow ch = true)

/-- `41_debounce.md` section 4, an inference the spec marks as its own: two confirmed presses of one channel are at
least 52 steps apart, whatever happens between them. -/
def Obligations.ConfirmedPressesAreFiftyTwoStepsApart : Prop :=
  ∀ (s t : State) (ch : Channel) (n : Nat), 1 ≤ n → s.pressConfirmed ch = true → runSteps n s = .next t →
    t.pressConfirmed ch = true → 52 ≤ n

/-- `70_reset_and_hazards.md` section 2, in part an inference the spec marks as its own: a line that stays low after a
confirmed press gives no further press: there is no auto-repeat, and a line stuck low gives at most one press. -/
def Obligations.LineStuckLowGivesAtMostOnePress : Prop :=
  ∀ (s : State) (ch : Channel) (n : Nat), 1 ≤ n → s.pressConfirmed ch = true →
    (∀ j, j ≤ n → (s.inputAt j).line ch = false) →
    ∃ t : State, runSteps n s = .next t ∧ t.pressConfirmed ch = false ∧ t.selects (edgeOf ch) = false

/-- `70_reset_and_hazards.md` section 2: a tone started while no silence timer stays pending sounds for its full 200
steps, whatever other presses start meanwhile, unless a reset intervenes. -/
def Obligations.ToneLastsTwoHundredStepsWhenNoTimerIsPending : Prop :=
  ∀ s : State, s.anyPress = true → (∀ k, 2 ≤ k → k ≤ 200 → s.silAt k = false) → s.noResetFor 200 →
    ∀ j, 1 ≤ j → j ≤ 200 → ∃ t : State, runSteps j s = .next t ∧ t.toneOn = true

/-- `44_timers.md` section 2, an inference the spec marks as its own: with the reset step as step 0, `BLINK` is
performed in exactly the steps 100, 200, 300, …, and `status_led` after step `n` is `floor(n / 100) mod 2`, whatever
the buttons do. -/
def Obligations.BlinkTogglesEveryHundredSteps : Prop :=
  ∀ (s : State) (n : Nat), s.rst = true → (∀ j, 1 ≤ j → j ≤ n → (s.inputAt j).rst = false) →
    ∃ t : State, runSteps (n + 1) s = .next t ∧ t.statusLed = decide (n / 100 % 2 = 1) ∧
      (t.rst = false → t.selects .blink = decide ((n + 1) % 100 = 0))

/-- `44_timers.md` section 2: the blink timer is independent of buttons, digit and tone: two runs that agree on it and
on `rst` agree on it for ever, whatever else they hold and whatever their lines do. -/
def Obligations.BlinkTimerIsIndependentOfEverythingElse : Prop :=
  ∀ (n : Nat) (s s' : State), s.blinkCnt = s'.blinkCnt → s.statusLed = s'.statusLed →
    (∀ j, j < n → (s.inputAt j).rst = (s'.inputAt j).rst) →
    ∃ t t' : State, runSteps n s = .next t ∧ runSteps n s' = .next t' ∧ t.blinkCnt = t'.blinkCnt ∧ t.statusLed = t'.statusLed

/-- `70_reset_and_hazards.md` section 1: a line that is low in the reset step and stays low produces no edge and no
press: the channel stays Idle. -/
def Obligations.LineHeldLowThroughResetProducesNoEdge : Prop :=
  ∀ (s : State) (ch : Channel) (n : Nat), s.rst = true → s.line ch = false →
    (∀ j, 1 ≤ j → j ≤ n → (s.inputAt j).rst = false ∧ (s.inputAt j).line ch = false) →
    ∃ t : State, runSteps (n + 1) s = .next t ∧ t.isDebouncing.get ch = false ∧ t.prevN.get ch = false ∧
      t.selects (edgeOf ch) = false ∧ t.pressConfirmed ch = false

/-- `10_state.md` section 1, `40_step.md` section 1: the state is the thirteen fields and nothing else. The next values of the
thirteen fields are a function of these fields and of the sampled input vector; what else stands in the environment (the
model's own, log 1) plays no part, and the environment moves on by one vector. -/
def Obligations.TheNextRegistersAreAFunctionOfRegistersAndInput : Prop :=
  ∀ s s' : State, s.toRegisters = s'.toRegisters → s.input = s'.input →
    ∃ t t' : State, step s = .next t ∧ step s' = .next t' ∧ t.toRegisters = t'.toRegisters ∧
      t.toEnvironment = s.toEnvironment.next

/-- `10_state.md` section 10: the thirteen fields of `State.reset` are a state that a reset step produces (one with both lines
released, which is the model's choice: log 3). -/
def Obligations.TheResetStateIsReachable : Prop := Reachable State.reset.toRegisters

/-- `10_state.md` section 9, INV5, whose reason the spec gives as derived: at `State.reset` the pending silence timers are
spaced. -/
def Obligations.ResetStateHasItsSilencesSpaced : Prop := State.reset.silencesSpaced

/-- `10_state.md` section 9, INV5, whose reason the spec gives as derived: every step keeps the invariants INV2, INV3, INV4,
INV6 and INV7 together with the spacing of the pending silence timers, at least 52 places for each channel and tied to
the channel's debounce progress. -/
def Obligations.EveryStepKeepsTheSilencesSpaced : Prop :=
  ∀ s t : State, s.Inv ∧ s.silencesSpaced → step s = .next t → t.Inv ∧ t.silencesSpaced

/-- `10_state.md` section 9, INV5, whose reason the spec gives as derived: spaced silence timers are at most eight. -/
def Obligations.SpacedSilencesAreAtMostEight : Prop :=
  ∀ r : Registers, r.silencesSpaced → r.pendingSilences ≤ 8
end

