-- ==== Sys2Proof/Laws/PerInstr.lean ====
section
/-! SUPPORT. The per-instruction family: each operation is well formed, and its own row's word decodes to a bundle that
performs it. -/

namespace Sys2Proof.Laws.OwnRowDecodes

/-- The word of the operation's row is not reserved, and the bundle it stands for is well formed and performs the operation. -/
def Statement (i : Instr) : Prop :=
  i.wf = true ∧ decode i.pattern = .ok (select i.pattern) ∧ Bundle.wf (select i.pattern) = true ∧ i ∈ select i.pattern

theorem reset : Statement .reset := by unfold Statement; decide
theorem advance : Statement .advance := by unfold Statement; decide
theorem edgeInc : Statement .edgeInc := by unfold Statement; decide
theorem edgeDec : Statement .edgeDec := by unfold Statement; decide
theorem silence : Statement .silence := by unfold Statement; decide
theorem blink : Statement .blink := by unfold Statement; decide
theorem pressInc : Statement .pressInc := by unfold Statement; decide
theorem rejectInc : Statement .rejectInc := by unfold Statement; decide
theorem pressDec : Statement .pressDec := by unfold Statement; decide
theorem rejectDec : Statement .rejectDec := by unfold Statement; decide
theorem idle : Statement .idle := by unfold Statement; decide

end Sys2Proof.Laws.OwnRowDecodes
end

