-- ==== Sys2Proof/Laws/Trace.lean ====
section
/-! SUPPORT. The observable events of a step in terms of the conditions that form its event word. -/

namespace Sys2Proof.Machine

variable (s : State) (ch : Channel)

/-- Which press or rejection a packed word selects, by channel. -/
theorem selectedBy_confirmation_pack : ∀ rst ed ei sf bf cd ci ld li : Bool,
    Instr.selectedBy .pressInc (.pack rst ed ei sf bf cd ci ld li) = (!rst && ci && !li) ∧
    Instr.selectedBy .rejectInc (.pack rst ed ei sf bf cd ci ld li) = (!rst && ci && li) ∧
    Instr.selectedBy .pressDec (.pack rst ed ei sf bf cd ci ld li) = (!rst && cd && !ld) ∧
    Instr.selectedBy .rejectDec (.pack rst ed ei sf bf cd ci ld li) = (!rst && cd && ld) := by
  decide

/-- Which edge or timer operation a packed word selects. -/
theorem selectedBy_event_pack : ∀ rst ed ei sf bf cd ci ld li : Bool,
    Instr.selectedBy .edgeInc (.pack rst ed ei sf bf cd ci ld li) = (!rst && ei) ∧
    Instr.selectedBy .edgeDec (.pack rst ed ei sf bf cd ci ld li) = (!rst && ed) ∧
    Instr.selectedBy .silence (.pack rst ed ei sf bf cd ci ld li) = (!rst && sf) ∧
    Instr.selectedBy .blink (.pack rst ed ei sf bf cd ci ld li) = (!rst && bf) := by
  decide

/-- A press is a service that finds the line low (R81). -/
theorem pressConfirmed_eq : s.pressConfirmed ch = (!s.rst && s.confirmationServiced ch && !s.line ch) := by
  cases ch
  · exact (selectedBy_confirmation_pack ..).1
  · exact (selectedBy_confirmation_pack ..).2.2.1

/-- A rejection is a service that finds the line high (R81). -/
theorem pressRejected_eq : s.pressRejected ch = (!s.rst && s.confirmationServiced ch && s.line ch) := by
  cases ch
  · exact (selectedBy_confirmation_pack ..).2.1
  · exact (selectedBy_confirmation_pack ..).2.2.2

/-- An edge operation is selected by an accepted edge outside a reset step (R57, R61). -/
theorem selects_edgeOf_eq : s.selects (edgeOf ch) = (!s.rst && s.edgeAccepted ch) := by
  cases ch
  · exact (selectedBy_event_pack ..).1
  · exact (selectedBy_event_pack ..).2.1

/-- `SILENCE` is selected by a firing timer outside a reset step (R59, R61). -/
theorem selects_silence_eq : s.selects .silence = (!s.rst && s.silenceFires) := (selectedBy_event_pack ..).2.2.1

/-- `BLINK` is selected by the firing blink timer outside a reset step (R60, R61). -/
theorem selects_blink_eq : s.selects .blink = (!s.rst && s.blinkFires) := (selectedBy_event_pack ..).2.2.2

/-- An accepted edge excludes a high line and a service of its own channel, and Increment's service excludes Decrement's
(R57, R58, R62). -/
theorem formation_exclusions :
    (∀ ch, s.edgeAccepted ch = true → s.line ch = false ∧ s.confirmationServiced ch = false) ∧
    (s.confirmationServiced .inc = true → s.confirmationServiced .dec = false) := by
  refine ⟨fun ch h => ?_, fun h => ?_⟩
  · simp only [State.edgeAccepted, Registers.edgeAccepted, Registers.fall, Bool.and_eq_true, Bool.not_eq_true'] at h
    refine ⟨h.1.1.2, ?_⟩
    cases ch
    · simp [Registers.confirmationServiced, Registers.due, h.2]
    · simp [Registers.confirmationServiced, Registers.due, h.2]
  · simp only [Registers.confirmationServiced] at h ⊢
    simp [h]

end Sys2Proof.Machine
end

