-- ==== Sys2Proof/Tests/Slice0.lean ====
section
/-! SUPPORT. Small tests: words from the spec's tables, refused ill-formed bundles, single steps from `95_test_vectors.md`,
and a witness for the hypotheses of each statement. -/

namespace Sys2Proof.Tests

open Sys2Proof.Machine

/-! ## Decoding: words of `95_test_vectors.md` section 2.9 and of the table of R61 -/

theorem test_decode_reset : decode 0b100000011#9 = .ok [.reset] := by decide
theorem test_decode_reset_only : decode 0b100111011#9 = .ok [.reset] := by decide
theorem test_decode_advance_idle : decode 0b000000011#9 = .ok [.advance, .idle] := by decide
theorem test_decode_edge_inc : decode 0b001000010#9 = .ok [.advance, .edgeInc] := by decide
theorem test_decode_edge_dec : decode 0b010000001#9 = .ok [.advance, .edgeDec] := by decide
theorem test_decode_silence : decode 0b000100011#9 = .ok [.advance, .silence] := by decide
theorem test_decode_blink : decode 0b000010011#9 = .ok [.advance, .blink] := by decide
theorem test_decode_press_inc : decode 0b000000110#9 = .ok [.advance, .pressInc] := by decide
theorem test_decode_reject_inc : decode 0b000000111#9 = .ok [.advance, .rejectInc] := by decide
theorem test_decode_press_dec : decode 0b000001001#9 = .ok [.advance, .pressDec] := by decide
theorem test_decode_reject_dec : decode 0b000001011#9 = .ok [.advance, .rejectDec] := by decide
theorem test_decode_edge_with_press : decode 0x084#9 = .ok [.advance, .edgeDec, .pressInc] := by decide
theorem test_decode_four_events :
    decode 0x0F0#9 = .ok [.advance, .edgeInc, .edgeDec, .silence, .blink] := by decide
theorem test_reserved_both : decode 0x00C#9 = .error .bothConfirmations := by decide
theorem test_reserved_edge_conf_inc : decode 0x044#9 = .error (.edgeWithConfirmation .inc) := by decide
theorem test_reserved_edge_conf_dec : decode 0x088#9 = .error (.edgeWithConfirmation .dec) := by decide
theorem test_reserved_edge_level_inc : decode 0x041#9 = .error (.edgeOnReleasedLine .inc) := by decide
theorem test_reserved_edge_level_dec : decode 0x082#9 = .error (.edgeOnReleasedLine .dec) := by decide
theorem test_ten_bits_refused : decodeNat 0x203 = .error .notNineBits := by decide
theorem test_table_words :
    ([0x100, 0x040, 0x080, 0x020, 0x010, 0x004, 0x005, 0x008, 0x00A, 0x000].map (decodeTableWord 16)) =
      [some .reset, some .edgeInc, some .edgeDec, some .silence, some .blink, some .pressInc, some .rejectInc,
        some .pressDec, some .rejectDec, some .idle] := by decide
theorem test_encode_stop_start : encode [.advance, .silence, .pressInc] true false = 0x026#9 := by decide

/-! ## Ill-formed bundles, one for each check -/

theorem test_wf_good : Bundle.wf [.advance, .edgeDec, .blink, .rejectInc] = true := by decide
theorem test_wf_reset_with_more : Bundle.resetAlone [.reset, .advance] = false := by decide
theorem test_wf_no_advance : Bundle.advanceFirst [.edgeInc] = false := by decide
theorem test_wf_empty : Bundle.wf [] = false := by decide
theorem test_wf_out_of_order : Bundle.inOrder [.advance, .blink, .silence] = false := by decide
theorem test_wf_two_confirmations : Bundle.inOrder [.advance, .pressInc, .pressDec] = false := by decide
theorem test_wf_idle_with_event : Bundle.idleExactlyAlone [.advance, .blink, .idle] = false := by decide
theorem test_wf_advance_alone : Bundle.idleExactlyAlone [.advance] = false := by decide
theorem test_wf_edge_with_own_conf :
    Bundle.noEdgeWithOwnConfirmation [.advance, .edgeInc, .pressInc] = false := by decide
theorem test_levels_press_high : Bundle.fitsLevels [.advance, .pressDec] true true = false := by decide
theorem test_levels_reject_low : Bundle.fitsLevels [.advance, .rejectInc] true false = false := by decide
theorem test_stimulus_zero_steps : StimulusLine.wf (.rel 0) = false := by decide

/-! ## Single steps -/

/-- `s` with the given vector sampled in its next step. -/
def sampling (v : InputVec) (s : State) : State := { s with stimulus := [v] }

/-- The event word formed is `ev`, and the step answers the state `t`, one input vector later. -/
def stepsTo (s : State) (ev : EventWord) (t : State) : Bool :=
  s.form == ev &&
    match step s with
    | .next u => decide (u = { t with stimulus := [], ticks := s.ticks + 1 })
    | .fault _ => false
    | .refused _ => false

/-- The reset state with both lines sampled high, as the rows of section 2 presume. -/
def base : State := State.reset

/-- Increment in PendingConfirm, its counter at `n`, the digit `d`. -/
def incPending (n : DbCount) (d : Digit) : State :=
  { base with digit := d, isDebouncing := ⟨true, false⟩, irqEn := ⟨false, true⟩, dbCnt := ⟨n, 0⟩, prevN := ⟨false, true⟩ }

/-- Decrement in PendingConfirm, its counter at `n`, the digit `d`. -/
def decPending (n : DbCount) (d : Digit) : State :=
  { base with digit := d, isDebouncing := ⟨false, true⟩, irqEn := ⟨true, false⟩, dbCnt := ⟨0, n⟩, prevN := ⟨true, false⟩ }

/-- Both channels in PendingConfirm and due, the digit 4 (VS8). -/
def bothDue : State :=
  { base with
    digit := 4, isDebouncing := ⟨true, true⟩, irqEn := ⟨false, false⟩, dbCnt := ⟨1, 1⟩, prevN := ⟨false, false⟩ }

/-- The tone sounding with timers pending as given (VT1 to VT6). -/
def sounding (sil : SilenceLine) (s : State) : State := { s with sil := sil, toneOn := true, pwmEn := true }

/-- A state after a press: Idle, tone on, strobes set, one new timer. -/
def pressed (d : Digit) (prev : PerChannel Bool) (sil : SilenceLine) : State :=
  { base with
    digit := d, prevN := prev, sil := sil ||| (1#200 <<< 199), blinkCnt := 99, toneOn := true, pwmEn := true,
    renderStb := true, toneStartStb := true }

/-- VR1, VR2: the pre-state of the reset rows. -/
def busy : State :=
  { base with
    digit := 7, isDebouncing := ⟨true, true⟩, irqEn := ⟨false, false⟩, dbCnt := ⟨20, 1⟩,
    sil := 1#200 ||| (1#200 <<< 49), blinkCnt := 1, statusLed := true, toneOn := true, pwmEn := true }

theorem test_reset_VR1 : stepsTo (sampling 0b111#3 busy) 0x13B#9 base = true := by decide
theorem test_reset_VR2 : stepsTo (sampling 0b110#3 busy) 0x13A#9 { base with prevN := ⟨false, true⟩ } = true := by decide
theorem test_advance_VA2 :
    stepsTo
      (sampling 0b010#3
        { incPending 37 0 with
          sil := (1#200 <<< 11) ||| (1#200 <<< 199), blinkCnt := 64, renderStb := true, toneStartStb := true,
          toneOn := true, pwmEn := true })
      0x002#9
      { incPending 36 0 with
        sil := (1#200 <<< 10) ||| (1#200 <<< 198), blinkCnt := 63, toneOn := true, pwmEn := true } = true := by decide
theorem test_advance_VB3 :
    stepsTo (sampling 0b011#3 { base with blinkCnt := 2, statusLed := true }) 0x003#9
      { base with blinkCnt := 1, statusLed := true } = true := by decide
theorem test_edge_inc_VE1 :
    stepsTo (sampling 0b010#3 base) 0x042#9 { incPending 50 0 with blinkCnt := 99 } = true := by decide
theorem test_edge_dec_VE2 :
    stepsTo (sampling 0b001#3 base) 0x081#9 { decPending 50 0 with blinkCnt := 99 } = true := by decide
theorem test_both_edges_VE3 :
    stepsTo (sampling 0b000#3 base) 0x0C0#9
      { bothDue with digit := 0, dbCnt := ⟨50, 50⟩, blinkCnt := 99 } = true := by decide
theorem test_idle_level_is_no_edge_VE4 :
    stepsTo (sampling 0b010#3 { base with prevN := ⟨false, true⟩ }) 0x002#9
      { base with prevN := ⟨false, true⟩, blinkCnt := 99 } = true := by decide
theorem test_idle_edge_dropped_VE5 :
    stepsTo (sampling 0b010#3 { incPending 30 0 with prevN := ⟨true, true⟩ }) 0x002#9
      { incPending 29 0 with blinkCnt := 99 } = true := by decide
theorem test_silence_VT3 :
    stepsTo (sampling 0b011#3 (sounding (1#200 ||| (1#200 <<< 139)) { base with digit := 3 })) 0x023#9
      { base with digit := 3, sil := 1#200 <<< 138, blinkCnt := 99, pwmEn := true, toneStopStb := true } = true := by
  decide
theorem test_silence_and_reject_VT6 :
    stepsTo (sampling 0b011#3 (sounding 1#200 (incPending 1 3))) 0x027#9
      { base with digit := 3, blinkCnt := 99, pwmEn := true, toneStopStb := true } = true := by decide
theorem test_blink_VB1 :
    stepsTo (sampling 0b011#3 { base with blinkCnt := 1 }) 0x013#9 { base with statusLed := true } = true := by decide
theorem test_four_events_VB4 :
    stepsTo (sampling 0b000#3 (sounding 1#200 { base with blinkCnt := 1 })) 0x0F0#9
      { bothDue with digit := 0, dbCnt := ⟨50, 50⟩, statusLed := true, pwmEn := true, toneStopStb := true } = true := by
  decide
theorem test_press_inc_wraps_VS6 :
    stepsTo (sampling 0b010#3 (incPending 1 9)) 0x006#9 (pressed 0 ⟨false, true⟩ 0) = true := by decide
theorem test_stop_then_start_VT5 :
    stepsTo (sampling 0b010#3 (sounding 1#200 (incPending 1 3))) 0x026#9
      { pressed 4 ⟨false, true⟩ 0 with toneStopStb := true } = true := by decide
theorem test_reject_inc_VS2 :
    stepsTo (sampling 0b011#3 (incPending 1 4)) 0x007#9 { base with digit := 4, blinkCnt := 99 } = true := by decide
theorem test_press_dec_wraps_VS7 :
    stepsTo (sampling 0b001#3 (decPending 1 0)) 0x009#9 (pressed 9 ⟨true, false⟩ 0) = true := by decide
theorem test_arbiter_VS8 :
    stepsTo (sampling 0b000#3 bothDue) 0x004#9
      { pressed 5 ⟨false, false⟩ 0 with
        isDebouncing := ⟨false, true⟩, irqEn := ⟨true, false⟩, dbCnt := ⟨0, 0⟩ } = true := by decide
theorem test_reject_dec_VS4 :
    stepsTo (sampling 0b011#3 (decPending 1 4)) 0x00B#9 { base with digit := 4, blinkCnt := 99 } = true := by decide
theorem test_held_over_reject_dec_VS10 :
    stepsTo
      (sampling 0b010#3
        { pressed 5 ⟨false, false⟩ 0 with
          isDebouncing := ⟨false, true⟩, irqEn := ⟨true, false⟩, dbCnt := ⟨0, 0⟩, blinkCnt := 100 })
      0x00A#9
      { pressed 5 ⟨false, true⟩ 0 with sil := 1#200 <<< 198, renderStb := false, toneStartStb := false } = true := by
  decide

theorem test_stimulus_P11_start :
    expandProgram [.rsti 1, .inc 2, .rel 1, .vec 0b000#3 1] = [0b110#3, 0b010#3, 0b010#3, 0b011#3, 0b000#3] := by decide
theorem test_outWord_after_press : (pressed 5 ⟨true, true⟩ 0).outWord = 0b011110#6 := by decide
theorem test_pixel_order : (pixelIndex 0 0).val = 0 ∧ (pixelIndex 1 2).val = 7 ∧ (pixelIndex 4 4).val = 24 := by decide
theorem test_colors : color true = 0xFFFFFF#24 ∧ color false = 0x000000#24 := by decide
theorem test_fetch_word_runs :
    (State.reset.withFetchWord 16 0x020).form = 0x020#9 ∧
      stepsTo (State.reset.withFetchWord 16 0x020) 0x020#9
        { base with prevN := ⟨false, false⟩, blinkCnt := 99, toneStopStb := true } = true := by decide

/-! ## Witnesses: concrete states and operands that meet the hypotheses of each statement -/

/-- A state whose next `n` vectors are all `v` has no reset in its next `m <= n` steps if `v` is none. -/
theorem noReset_of_replicate {s : State} {v : InputVec} {m n : Nat} (hs : s.stimulus = List.replicate n v)
    (hv : v.rst = false) (h : m ≤ n) : s.noResetFor m := by
  intro j hj
  simp [Environment.inputAt, hs, show j < n by omega, hv]

/-- `s` with the same vector sampled in each of its next `n` steps. -/
def holding (v : InputVec) (n : Nat) (s : State) : State := { s with stimulus := List.replicate n v }

theorem witness_reset_alone : EventWord.rst 0x1F0#9 = true ∧ Instr.selectedBy .reset 0x1F0#9 = true := by decide
theorem witness_edge_inc_selected : (sampling 0b010#3 base).selects .edgeInc = true := by decide
theorem witness_edge_dec_selected : (sampling 0b001#3 base).selects .edgeDec = true := by decide
theorem witness_row_selection : EventWord.rst 0x103#9 = true ∧ EventWord.rst 0x003#9 = false := by decide
theorem witness_reserved_words :
    (EventWord.serviced 0x00C#9 .inc = true ∧ EventWord.serviced 0x00C#9 .dec = true) ∧
    (EventWord.edge 0x044#9 .inc = true ∧ EventWord.serviced 0x044#9 .inc = true) ∧
    (EventWord.edge 0x082#9 .dec = true ∧ EventWord.level 0x082#9 .dec = true) ∧
    reservedPattern 0x003#9 = none := by decide
theorem witness_encode :
    Bundle.wf [.advance, .edgeDec, .silence, .rejectInc] = true ∧
      Bundle.fitsLevels [.advance, .edgeDec, .silence, .rejectInc] false true = true ∧
      Bundle.wf [.reset] = true ∧ Bundle.fitsLevels [.reset] true false = true := by decide
theorem witness_decode : decode 0x026#9 = .ok [.advance, .silence, .pressInc] ∧ EventWord.rst 0x026#9 = false := by decide
theorem witness_step_runs_bundle : decode (sampling 0b010#3 base).form = .ok [.advance, .edgeInc] := by decide
theorem witness_prepared_lowest : (0 : Nat) < 512 ∧ reservedPattern (BitVec.ofNat 9 0) = none := by decide
theorem witness_prepared_highest : (0x1F0 : Nat) < 512 ∧ reservedPattern (BitVec.ofNat 9 0x1F0) = none := by decide
theorem witness_reset_step : (sampling 0b111#3 busy).input.getLsbD 2 = true := by decide

/-- A state in the middle of a window, and the state one `IDLE` step later. -/
def inWindow : State := sampling 0b010#3 { incPending 30 0 with toneOn := true, pwmEn := true }
def inWindowNext : State :=
  { incPending 29 0 with blinkCnt := 99, toneOn := true, pwmEn := true, ticks := 1 }

theorem witness_keeps_invariants : inWindow.Inv ∧ step inWindow = .next inWindowNext := by
  refine ⟨⟨?_, ?_, ?_, fun _ => rfl, rfl, ?_⟩, rfl⟩
  · intro ch; cases ch <;> rfl
  · intro ch; cases ch <;> decide
  · unfold Registers.blinkCountLegal; decide
  · intro h; cases h
theorem witness_reenabled : inWindow.Inv ∧ inWindow.rst = false := ⟨witness_keeps_invariants.1, by decide⟩
theorem witness_reachable : Reachable { base.toRegisters with prevN := ⟨false, true⟩ } :=
  Reachable.reset (s := sampling 0b110#3 busy) (t := { base with prevN := ⟨false, true⟩, ticks := 1 }) (by decide) rfl
theorem witness_disabled_line : (incPending 30 0).irqEn.get .inc = false ∧ (decPending 30 0).irqEn.get .dec = false := by
  decide
theorem witness_service_inc :
    (sampling 0b010#3 (incPending 1 4)).rst = false ∧ (sampling 0b010#3 (incPending 1 4)).confirmationServiced .inc = true := by
  decide
theorem witness_service_dec :
    (sampling 0b011#3 (decPending 0 4)).rst = false ∧ (sampling 0b011#3 (decPending 0 4)).confirmationServiced .dec = true := by
  decide
theorem witness_both_due :
    (sampling 0b000#3 bothDue).rst = false ∧ (sampling 0b000#3 bothDue).due .inc = true ∧
      (sampling 0b000#3 bothDue).due .dec = true := by decide

theorem witness_rejects_and_timers_selected :
    (sampling 0b011#3 (incPending 1 3)).selects .rejectInc = true ∧
      (sampling 0b011#3 (decPending 1 3)).selects .rejectDec = true ∧
      (sampling 0b011#3 (sounding 1#200 base)).selects .silence = true ∧
      (sampling 0b011#3 { base with blinkCnt := 1 }).selects .blink = true := by decide
theorem witness_press_inc_selected :
    (sampling 0b000#3 bothDue).selects .pressInc = true ∧ (sampling 0b000#3 bothDue).due .dec = true := by decide
theorem witness_press_dec_selected : (sampling 0b001#3 (decPending 1 0)).selects .pressDec = true := by decide

/-- An edge sampled in the step of its channel's own service. -/
theorem witness_edge_in_service_step :
    let s := sampling 0b010#3 { incPending 1 4 with prevN := ⟨true, true⟩ }
    s.rst = false ∧ s.fall .inc = true ∧ s.confirmationServiced .inc = true := by decide

/-- VS8's next state when Decrement's line is high in the step after the collision. -/
theorem witness_held_over_next_step :
    (match step { bothDue with stimulus := [0b000#3, 0b011#3] } with
      | .next t => !t.rst && t.line .dec
      | .fault _ => false
      | .refused _ => false) = true := by decide

theorem witness_channels_inc :
    let s := sampling 0b000#3 (incPending 7 1)
    let s' := sampling 0b010#3 { incPending 7 5 with toneOn := true }
    s.rst = s'.rst ∧ s.input.getLsbD 0 = s'.input.getLsbD 0 ∧ s.isDebouncing.inc = s'.isDebouncing.inc ∧
      s.irqEn.inc = s'.irqEn.inc ∧ s.dbCnt.inc = s'.dbCnt.inc ∧ s.prevN.inc = s'.prevN.inc ∧ s ≠ s' := by decide
theorem witness_channels_dec :
    let s := sampling 0b000#3 (decPending 1 1)
    let s' := sampling 0b001#3 (decPending 1 6)
    s.rst = s'.rst ∧ s.input.getLsbD 1 = s'.input.getLsbD 1 ∧ s.isDebouncing.dec = s'.isDebouncing.dec ∧
      s.irqEn.dec = s'.irqEn.dec ∧ s.dbCnt.dec = s'.dbCnt.dec ∧ s.prevN.dec = s'.prevN.dec ∧ s.due .inc = s'.due .inc ∧
      s ≠ s' := by decide
theorem witness_stop_and_start :
    (sampling 0b010#3 (sounding 1#200 (incPending 1 3))).silAt 1 = true ∧
      (sampling 0b010#3 (sounding 1#200 (incPending 1 3))).anyPress = true := by decide
theorem witness_pixel_bounds : (0 : Nat) < 25 ∧ (24 : Nat) < 25 ∧ pixelSeq 3 = pixelSeq 3 := ⟨by decide, by decide, rfl⟩
theorem witness_silence_bit_first : (base).noResetFor (1 - 1) := fun j hj => absurd hj (by omega)
theorem witness_silence_bit_last :
    (holding 0b011#3 200 (sounding (1#200 <<< 199) base)).silAt 200 = true ∧
      (holding 0b011#3 200 (sounding (1#200 <<< 199) base)).noResetFor (200 - 1) :=
  ⟨by decide, noReset_of_replicate rfl rfl (by decide)⟩
theorem witness_press_then_silence :
    (holding 0b010#3 201 (incPending 1 3)).anyPress = true ∧ (holding 0b010#3 201 (incPending 1 3)).noResetFor 201 :=
  ⟨by decide, noReset_of_replicate rfl rfl (by decide)⟩
theorem witness_edge_then_service :
    (holding 0b000#3 51 base).edgeAccepted .inc = true ∧ (holding 0b000#3 51 base).edgeAccepted .dec = true ∧
      (holding 0b000#3 51 base).noResetFor 51 :=
  ⟨by decide, by decide, noReset_of_replicate rfl rfl (by decide)⟩

/-- The state after `n` steps, or `base` if the run ended early. -/
def after (n : Nat) (s : State) : State :=
  match runSteps n s with
  | .next t => t
  | .fault _ => base
  | .refused _ => base

theorem witness_collision_after_fifty_steps : (after 50 (holding 0b000#3 51 base)).due .inc = true := by decide +kernel
theorem witness_no_collision_after_fifty_steps :
    (holding 0b001#3 51 base).edgeAccepted .dec = true ∧ (after 50 (holding 0b001#3 51 base)).due .inc = false := by
  decide +kernel

/-- A press, the line high for one step, and low again for fifty-one: the shortest way to a second press. -/
def twoPresses : State := { incPending 1 3 with stimulus := 0b010#3 :: 0b011#3 :: List.replicate 51 0b010#3 }

theorem witness_two_presses :
    twoPresses.pressConfirmed .inc = true ∧ (after 52 twoPresses).pressConfirmed .inc = true ∧
      (match runSteps 52 twoPresses with | .next t => decide (t = after 52 twoPresses) | .fault _ => false | .refused _ => false)
        = true := by decide +kernel
theorem witness_stuck_low :
    (holding 0b010#3 2 (incPending 1 3)).pressConfirmed .inc = true ∧
      ∀ j, j ≤ 1 → ((holding 0b010#3 2 (incPending 1 3)).inputAt j).line .inc = false := by
  refine ⟨by decide, fun j hj => ?_⟩
  rcases Nat.le_one_iff_eq_zero_or_eq_one.1 hj with rfl | rfl <;> rfl
theorem witness_tone_lasts :
    (holding 0b010#3 200 (incPending 1 3)).anyPress = true ∧
      (∀ k, 2 ≤ k → k ≤ 200 → (holding 0b010#3 200 (incPending 1 3)).silAt k = false) ∧
      (holding 0b010#3 200 (incPending 1 3)).noResetFor 200 :=
  ⟨by decide, fun k _ _ => by simp [Registers.silAt, holding, incPending, base, State.reset], noReset_of_replicate rfl rfl (by decide)⟩
/-- A reset step and the line levels of the hundred steps after it. -/
def resetThenRun : State := { busy with stimulus := 0b111#3 :: List.replicate 100 0b011#3 }

/-- The boundary of the first blink period: with `n = 99` the step `n + 1` is no reset and is the hundredth. -/
theorem witness_blink_phase :
    resetThenRun.rst = true ∧ (∀ j, 1 ≤ j → j ≤ 99 → (resetThenRun.inputAt j).rst = false) ∧
      (after 100 resetThenRun).rst = false ∧ (99 + 1) % 100 = 0 := by
  refine ⟨by decide, fun j h h' => ?_, by decide +kernel, rfl⟩
  obtain ⟨i, rfl⟩ : ∃ i, j = i + 1 := ⟨j - 1, by omega⟩
  simp only [Environment.inputAt, resetThenRun, List.getElem?_cons_succ, List.getElem?_replicate, show i < 100 by omega, if_true]
  rfl

/-- The same boundary as a test: the hundredth step, and not the one before it, performs `BLINK` (R109's example). -/
theorem test_blink_in_step_hundred :
    (after 100 resetThenRun).selects .blink = true ∧ (after 99 resetThenRun).selects .blink = false := by decide +kernel
theorem witness_blink_independent :
    let s := holding 0b000#3 1 { base with blinkCnt := 99 }
    let s' := holding 0b011#3 1 (pressed 5 ⟨true, true⟩ 0)
    s.blinkCnt = s'.blinkCnt ∧ s.statusLed = s'.statusLed ∧
      ∀ j, j < 1 → (s.inputAt j).rst = (s'.inputAt j).rst := by
  refine ⟨rfl, rfl, fun j hj => ?_⟩
  obtain rfl : j = 0 := by omega
  rfl
theorem witness_held_low_through_reset :
    let s : State := { busy with stimulus := [0b110#3, 0b010#3] }
    s.rst = true ∧ s.line .inc = false ∧
      ∀ j, 1 ≤ j → j ≤ 1 → (s.inputAt j).rst = false ∧ (s.inputAt j).line .inc = false := by
  refine ⟨by decide, by decide, fun j h h' => ?_⟩
  obtain rfl : j = 1 := by omega
  exact ⟨rfl, rfl⟩

theorem witness_same_registers_and_input :
    let s := sampling 0b010#3 base
    let s' : State := { base with stimulus := [0b010#3, 0b100#3], ticks := 9 }
    s.toRegisters = s'.toRegisters ∧ s.input = s'.input ∧ s.toEnvironment ≠ s'.toEnvironment := by decide

/-- Increment has just been pressed, fifty-two steps after its press before. -/
def twoTimers : State := sampling 0b010#3 (pressed 5 ⟨false, true⟩ (1#200 <<< 147))

theorem witness_silences_spaced : (twoTimers.Inv ∧ twoTimers.silencesSpaced) ∧ ∃ t, step twoTimers = .next t := by
  refine ⟨⟨⟨?_, ?_, ?_, fun _ => rfl, rfl, fun _ => ⟨rfl, rfl, by decide⟩⟩, ?_⟩, _, rfl⟩
  · intro ch; cases ch <;> rfl
  · intro ch; cases ch <;> decide
  · unfold Registers.blinkCountLegal; decide
  · have bits : ∀ k : Fin 201, 1 ≤ k.val → twoTimers.silAt k.val = true → k.val = 148 ∨ k.val = 200 := by
      decide +kernel
    refine ⟨fun ch k => ch = .inc ∧ (k = 148 ∨ k = 200), fun k h h' hk => .inl ⟨rfl, bits ⟨k, by omega⟩ h hk⟩, ?_, ?_, ?_⟩
    · rintro ch k ⟨-, rfl | rfl⟩ <;> omega
    · rintro ch k l ⟨-, rfl | rfl⟩ ⟨-, rfl | rfl⟩ <;> omega
    · rintro ch k ⟨rfl, rfl | rfl⟩ <;> exact ⟨by omega, by decide, by decide⟩

end Sys2Proof.Tests
end

section
/-! SUPPORT. The step as one function of the registers and of the sampled input vector: it always answers a next state,
whose registers the selected operations make, one after the other. -/

namespace Sys2Proof.Machine

/-- What one operation does to the registers of a step that samples `v`; `exec_eq` ties it to `exec`. -/
def Registers.perform (v : InputVec) (r : Registers) : Instr → Registers
  | .reset => .ofReset v
  | .advance => (r.clearStrobes.sampleLines v).countDownDebounce.shiftSilence.countDownBlink
  | .edgeInc => r.acceptEdge .inc
  | .edgeDec => r.acceptEdge .dec
  | .silence => r.toneStop
  | .blink => r.toggleLed.reloadBlink
  | .pressInc => r.onIncrement.afterTransition.service .inc
  | .rejectInc => r.service .inc
  | .pressDec => r.onDecrement.afterTransition.service .dec
  | .rejectDec => r.service .dec
  | .idle => r

/-- The registers after a step that samples `v`; `step_eq` ties it to `step`. -/
def Registers.next (r : Registers) (v : InputVec) : Registers :=
  (select (r.form v)).foldl (Registers.perform v) r

/-- Every operation answers a next state and acts on the registers alone (R66, R113). -/
theorem exec_eq (i : Instr) (s : State) : exec i s = .next (s.onRegisters fun r => r.perform s.input i) := by
  cases i <;> rfl

/-- A bundle answers a next state: its operations act on the registers from first to last (R66, R67). -/
theorem runBundle_eq (b : Bundle) (s : State) :
    runBundle b s = .next (s.onRegisters fun r => b.foldl (Registers.perform s.input) r) := by
  induction b generalizing s with
  | nil => rfl
  | cons i b ih => exact (runBundle_cons_next s).2 ⟨_, exec_eq i s, ih _⟩

/-- Formation never produces a reserved word (R62). -/
theorem reservedPattern_form (s : State) : reservedPattern s.form = none := by
  obtain ⟨hedge, hserviced⟩ := formation_exclusions s
  have noEdgeAndService (ch) : (s.edgeAccepted ch && s.confirmationServiced ch) = false := by
    cases h : s.edgeAccepted ch <;> simp [hedge ch, h]
  have noEdgeAndRelease (ch) : (s.edgeAccepted ch && s.line ch) = false := by
    cases h : s.edgeAccepted ch <;> simp [hedge ch, h]
  have notBoth : (s.confirmationServiced .inc && s.confirmationServiced .dec) = false := by
    cases h : s.confirmationServiced .inc <;> simp [hserviced, h]
  simp [reservedPattern, noEdgeAndService, noEdgeAndRelease, notBoth]

/-- Every step answers a next state: the registers of `Registers.next`, one input vector later (R66, R113). -/
theorem step_eq (s : State) : step s = .next (s.onRegisters fun r => r.next s.input).consumeInput := by
  have hdecode : decode s.form = .ok (select s.form) := decode_ok.2 ⟨reservedPattern_form s, rfl⟩
  simp only [step, stepOnce, runEvent, hdecode, runBundle_eq]
  rfl

/-- The operations are taken in the order of R67, each performed where it is selected and passed over where it is not. -/
theorem Registers.next_eq_foldl_performOrder (r : Registers) (v : InputVec) :
    r.next v =
      performOrder.foldl (fun w i => if i.selectedBy (r.form v) = true then w.perform v i else w) r :=
  List.foldl_filter

/-- `RESET` and `ADVANCE` between them are in every step: one by `RST = 1`, the other by `RST = 0` (R61). -/
theorem selectedBy_reset_advance_pack : ∀ rst ed ei sf bf cd ci ld li : Bool,
    Instr.selectedBy .reset (.pack rst ed ei sf bf cd ci ld li) = rst ∧
    Instr.selectedBy .advance (.pack rst ed ei sf bf cd ci ld li) = !rst := by
  decide

@[simp] theorem selectedBy_reset_form (r : Registers) (v : InputVec) :
    Instr.selectedBy .reset (r.form v) = v.rst := (selectedBy_reset_advance_pack ..).1

@[simp] theorem selectedBy_advance_form (r : Registers) (v : InputVec) :
    Instr.selectedBy .advance (r.form v) = !v.rst := (selectedBy_reset_advance_pack ..).2

end Sys2Proof.Machine
end

section
/-! SUPPORT. `10_state.md`: the strobes and the line samples after every step, and the output ports (R24, R26, R28). -/

namespace Sys2Proof.Machine

section fields

variable (r : Registers) (v : InputVec)

/-- `ADVANCE` or `RESET` clears the render strobe; after that only a press sets it (R24, R95). -/
theorem Registers.next_renderStb :
    (r.next v).renderStb = (Instr.selectedBy .pressInc (r.form v) || Instr.selectedBy .pressDec (r.form v)) := by
  rw [Registers.next_eq_foldl_performOrder]
  cases hrst : v.rst <;>
    simp [performOrder, Registers.perform, apply_ite Registers.renderStb, hrst, Bool.or_comm]

/-- `ADVANCE` or `RESET` clears the tone start strobe; after that only a press sets it (R24, R99). -/
theorem Registers.next_toneStartStb :
    (r.next v).toneStartStb = (Instr.selectedBy .pressInc (r.form v) || Instr.selectedBy .pressDec (r.form v)) := by
  rw [Registers.next_eq_foldl_performOrder]
  cases hrst : v.rst <;>
    simp [performOrder, Registers.perform, apply_ite Registers.toneStartStb, hrst, Bool.or_comm]

/-- `ADVANCE` or `RESET` clears the tone stop strobe; after that only `SILENCE` sets it (R24, R100). -/
theorem Registers.next_toneStopStb : (r.next v).toneStopStb = Instr.selectedBy .silence (r.form v) := by
  rw [Registers.next_eq_foldl_performOrder]
  cases hrst : v.rst <;>
    simp [performOrder, Registers.perform, apply_ite Registers.toneStopStb, hrst]

/-- `ADVANCE` and `RESET` both sample the lines, and no later operation of the step writes `prev_n` (R26). -/
theorem Registers.next_prevN : (r.next v).prevN = ⟨v.line .inc, v.line .dec⟩ := by
  rw [Registers.next_eq_foldl_performOrder]
  cases hrst : v.rst <;>
    simp [performOrder, Registers.perform, apply_ite Registers.prevN, hrst]

end fields

/-- Bit `ch` of a two-bit port is channel `ch`'s element (R28, R49). -/
@[simp] theorem channelBits_getLsbD (x : PerChannel Bool) (ch : Channel) :
    (channelBits x).getLsbD ch.index = x.get ch := by
  rw [channelBits, BitVec.getLsbD_append]
  cases ch <;> simp [Channel.index]

/-- The four-bit digit port loses nothing of the digit (R15, R28). -/
@[simp] theorem outputs_digitO_toNat (s : Registers) : s.outputs.digitO.toNat = s.digit.val := by
  have hfits : s.digit.val < 2 ^ 4 := by omega
  exact (BitVec.toNat_ofNat ..).trans (Nat.mod_eq_of_lt hfits)

end Sys2Proof.Machine
end

section
/-! CERTIFICATE. The statements of `10_state.md` on the strobes, the line samples and the output ports. -/

namespace Sys2Proof.Machine

/-- Settles O33: in every step `ADVANCE` or `RESET` clears the strobes first, so what stands in them at its end is what the
later operations of that step set. -/
theorem strobesReportExactlyTheCallsOfTheStep : Obligations.StrobesReportExactlyTheCallsOfTheStep := fun s =>
  ⟨_, step_eq s, Registers.next_renderStb .., Registers.next_toneStartStb .., Registers.next_toneStopStb ..⟩

/-- Settles O34: both operations that can begin a step sample the lines. -/
theorem previousSampleTracksTheLineInEveryStep : Obligations.PreviousSampleTracksTheLineInEveryStep := by
  intro s ch
  refine ⟨_, step_eq s, ?_⟩
  rw [State.consumeInput_toRegisters, State.onRegisters_toRegisters, Registers.next_prevN]
  cases ch <;> rfl

/-- Settles O43: the digit port and the two-bit ports are read back bit by bit; every other port is its field or table entry. -/
theorem outputsAreFunctionsOfTheState : Obligations.OutputsAreFunctionsOfTheState := fun s =>
  ⟨outputs_digitO_toNat _, rfl, rfl, rfl, rfl, rfl, rfl, rfl, rfl,
    fun ch => ⟨channelBits_getLsbD s.isDebouncing ch, channelBits_getLsbD s.irqEn ch⟩⟩

end Sys2Proof.Machine
end

section
/-! SUPPORT. `30_encoding.md`: which operation each row of the table selects, in terms of the word's named bits (R61), and
the conditions of formation written out (R58, R60). -/

namespace Sys2Proof.Machine

/-- An event word is nothing but its nine bits (R55): what holds of every packed word holds of every word. -/
theorem eventWord_cases {motive : EventWord → Prop}
    (pack : ∀ rst ed ei sf bf cd ci ld li : Bool, motive (.pack rst ed ei sf bf cd ci ld li)) (ev : EventWord) :
    motive ev := by
  have hbits : EventWord.pack (EventWord.rst ev) (EventWord.edge ev .dec) (EventWord.edge ev .inc)
      (EventWord.silenceFires ev) (EventWord.blinkFires ev) (EventWord.serviced ev .dec) (EventWord.serviced ev .inc)
      (EventWord.level ev .dec) (EventWord.level ev .inc) = ev := by
    revert ev; decide
  exact hbits ▸ pack ..

/-- `IDLE`'s mask covers `RST` and the six selector bits, and none of the levels (R61, R70). -/
theorem selectedBy_idle_pack : ∀ rst ed ei sf bf cd ci ld li : Bool,
    Instr.selectedBy .idle (.pack rst ed ei sf bf cd ci ld li) = !(rst || ei || ed || sf || bf || ci || cd) := by
  decide

section rows

variable (ev : EventWord)

theorem selectedBy_reset : Instr.selectedBy .reset ev = EventWord.rst ev := by
  cases ev using eventWord_cases with
  | pack => simp [selectedBy_reset_advance_pack]

theorem selectedBy_advance : Instr.selectedBy .advance ev = !EventWord.rst ev := by
  cases ev using eventWord_cases with
  | pack => simp [selectedBy_reset_advance_pack]

theorem selectedBy_edgeInc : Instr.selectedBy .edgeInc ev = (!EventWord.rst ev && EventWord.edge ev .inc) := by
  cases ev using eventWord_cases with
  | pack => simp [selectedBy_event_pack]

theorem selectedBy_edgeDec : Instr.selectedBy .edgeDec ev = (!EventWord.rst ev && EventWord.edge ev .dec) := by
  cases ev using eventWord_cases with
  | pack => simp [selectedBy_event_pack]

theorem selectedBy_silence : Instr.selectedBy .silence ev = (!EventWord.rst ev && EventWord.silenceFires ev) := by
  cases ev using eventWord_cases with
  | pack => simp [selectedBy_event_pack]

theorem selectedBy_blink : Instr.selectedBy .blink ev = (!EventWord.rst ev && EventWord.blinkFires ev) := by
  cases ev using eventWord_cases with
  | pack => simp [selectedBy_event_pack]

theorem selectedBy_pressInc :
    Instr.selectedBy .pressInc ev = (!EventWord.rst ev && EventWord.serviced ev .inc && !EventWord.level ev .inc) := by
  cases ev using eventWord_cases with
  | pack => simp [selectedBy_confirmation_pack]

theorem selectedBy_rejectInc :
    Instr.selectedBy .rejectInc ev = (!EventWord.rst ev && EventWord.serviced ev .inc && EventWord.level ev .inc) := by
  cases ev using eventWord_cases with
  | pack => simp [selectedBy_confirmation_pack]

theorem selectedBy_pressDec :
    Instr.selectedBy .pressDec ev = (!EventWord.rst ev && EventWord.serviced ev .dec && !EventWord.level ev .dec) := by
  cases ev using eventWord_cases with
  | pack => simp [selectedBy_confirmation_pack]

theorem selectedBy_rejectDec :
    Instr.selectedBy .rejectDec ev = (!EventWord.rst ev && EventWord.serviced ev .dec && EventWord.level ev .dec) := by
  cases ev using eventWord_cases with
  | pack => simp [selectedBy_confirmation_pack]

theorem selectedBy_idle :
    Instr.selectedBy .idle ev =
      !(EventWord.rst ev || EventWord.edge ev .inc || EventWord.edge ev .dec || EventWord.silenceFires ev ||
        EventWord.blinkFires ev || EventWord.serviced ev .inc || EventWord.serviced ev .dec) := by
  cases ev using eventWord_cases with
  | pack => simp [selectedBy_idle_pack]

end rows

/-- Every operation has its place in the order of R67, so a bundle holds each one its word selects. -/
theorem mem_select {i : Instr} {ev : EventWord} : i ∈ select ev ↔ i.selectedBy ev = true := by
  have hlisted : i ∈ performOrder := by cases i <;> decide
  simp [select, hlisted]

/-- Every row but `RESET` asks for `RST = 0` (R61). -/
theorem selectedBy_of_rst {ev : EventWord} (h : EventWord.rst ev = true) (i : Instr) :
    i.selectedBy ev = decide (i = .reset) := by
  cases i <;>
    simp [selectedBy_reset, selectedBy_advance, selectedBy_edgeInc, selectedBy_edgeDec, selectedBy_silence,
      selectedBy_blink, selectedBy_pressInc, selectedBy_rejectInc, selectedBy_pressDec, selectedBy_rejectDec,
      selectedBy_idle, h]

/-- A word with `RST = 1` selects `RESET` alone (R61). -/
theorem select_of_rst {ev : EventWord} (h : EventWord.rst ev = true) : select ev = [.reset] := by
  rw [select, funext (selectedBy_of_rst h)]
  decide

/-- `IDLE` tests no level, yet it excludes the presses and rejections: a set service bit selects one of the two, whichever
the level is (R61, R70). -/
theorem idle_mem_select_iff {ev : EventWord} (h : EventWord.rst ev = false) :
    .idle ∈ select ev ↔
      .edgeInc ∉ select ev ∧ .edgeDec ∉ select ev ∧ .silence ∉ select ev ∧ .blink ∉ select ev ∧
      .pressInc ∉ select ev ∧ .rejectInc ∉ select ev ∧ .pressDec ∉ select ev ∧ .rejectDec ∉ select ev := by
  simp only [mem_select, selectedBy_edgeInc, selectedBy_edgeDec, selectedBy_silence, selectedBy_blink,
    selectedBy_pressInc, selectedBy_rejectInc, selectedBy_pressDec, selectedBy_rejectDec, selectedBy_idle, h]
  cases EventWord.level ev .inc <;> cases EventWord.level ev .dec <;> simp [and_assoc]

/-- `due[ch]` with the counter read as a number (R58). -/
theorem due_eq (s : Registers) (ch : Channel) :
    s.due ch = (s.isDebouncing.get ch && decide ((s.dbCnt.get ch).toNat ≤ 1)) := by
  rw [Bool.eq_iff_iff, due_iff, Bool.and_eq_true, decide_eq_true_iff]

end Sys2Proof.Machine
end

section
/-! CERTIFICATE. The statements of `30_encoding.md` on what an event word selects and how its bits are formed. -/

namespace Sys2Proof.Machine

/-- Settles O12: `RST` divides the words; below it each row is read off its own bits. -/
theorem everyRowIsSelectedByItsOwnBits : Obligations.EveryRowIsSelectedByItsOwnBits := by
  refine fun ev => ⟨select_of_rst, fun h => ⟨?_, ?_, ?_, ?_, ?_, ?_, ?_, ?_, ?_, ?_, idle_mem_select_iff h⟩⟩ <;>
    simp [mem_select, selectedBy_reset, selectedBy_advance, selectedBy_edgeInc, selectedBy_edgeDec, selectedBy_silence,
      selectedBy_blink, selectedBy_pressInc, selectedBy_rejectInc, selectedBy_pressDec, selectedBy_rejectDec, h]

/-- Settles O17: the word is packed from nine conditions, and each bit reads its own condition back. -/
theorem eventWordBitsAreFormedFromStateAndInputs : Obligations.EventWordBitsAreFormedFromStateAndInputs := by
  intro s
  have hinc : s.form.getLsbD 2 = s.due .inc := form_serviced s .inc
  have hdec : s.form.getLsbD 3 = (s.due .dec && !s.due .inc) := form_serviced s .dec
  rw [due_eq] at hinc
  rw [due_eq, due_eq] at hdec
  exact ⟨form_rst s, form_level s .dec, form_level s .inc, form_edge s, hinc, hdec, form_silenceFires s,
    form_blinkFires s⟩

end Sys2Proof.Machine
end

section
/-! SUPPORT. `40_step.md`: what `ADVANCE`'s sampling, counting and shifting leave, read channel by channel and bit by bit
(R69), and `IDLE`'s selector bits (R70). -/

namespace Sys2Proof.Machine

theorem forall_channel_iff {p : Channel → Prop} : (∀ ch, p ch) ↔ p .inc ∧ p .dec := by
  refine ⟨fun h => ⟨h .inc, h .dec⟩, fun ⟨hinc, hdec⟩ ch => ?_⟩
  cases ch
  · exact hinc
  · exact hdec

/-- A counter goes down by one where its channel is pending and it is above 0, and stays elsewhere (R16, R69). -/
theorem countDownDb_eq_ite (p : Bool) (c : DbCount) :
    countDownDb p c = if p = true ∧ 0 < c.toNat then c - 1 else c := by
  simp only [countDownDb, Bool.and_eq_true, decide_eq_true_iff]

section advance

variable (s : Registers) (v : InputVec) (ch : Channel)

theorem sampleLines_get_prevN : (s.sampleLines v).prevN.get ch = v.line ch := by
  cases ch <;> rfl

/-- Each channel's counter moves by its own channel's flag alone (R69). -/
theorem countDownDebounce_get_dbCnt :
    s.countDownDebounce.dbCnt.get ch = countDownDb (s.isDebouncing.get ch) (s.dbCnt.get ch) := by
  cases ch <;> rfl

/-- `sil[T_SILENCE] <- 0`: the shift brings no timer in (R69). -/
theorem shiftSilence_silAt_last : s.shiftSilence.silAt 200 = false := by
  rw [shiftSilence_silAt s (by decide)]
  exact BitVec.getLsbD_of_ge s.sil 200 (Nat.le_refl 200)

end advance

/-- `IDLE` is selected by the absence of every selector bit; no level stands in the condition (R61, R70). -/
theorem selectedBy_idle_iff (ev : EventWord) :
    Instr.selectedBy .idle ev = true ↔
      EventWord.rst ev = false ∧ (∀ ch, EventWord.edge ev ch = false) ∧ EventWord.silenceFires ev = false ∧
        EventWord.blinkFires ev = false ∧ ∀ ch, EventWord.serviced ev ch = false := by
  simp [selectedBy_idle, forall_channel_iff, and_assoc]

end Sys2Proof.Machine
end

section
/-! CERTIFICATE. The statements of `40_step.md` on `ADVANCE` and `IDLE`. -/

namespace Sys2Proof.Machine

/-- Settles O2: each field `ADVANCE` writes is written by one of its five operations and left alone by the other four, so
each clause is that operation's own lemma and every other field is the one it was. -/
theorem advanceIsThePassingOfOneTimeUnit : Obligations.AdvanceIsThePassingOfOneTimeUnit := by
  refine ⟨selectedBy_advance, fun s => ⟨_, exec_advance s, rfl, rfl, rfl, ?prevN, ?dbCnt, ?sil, ?silLast, ?blinkCnt,
    rfl, rfl, rfl, rfl, rfl, rfl, rfl, rfl⟩⟩
  case prevN => exact sampleLines_get_prevN s.toRegisters s.input
  case dbCnt =>
    intro ch
    exact (countDownDebounce_get_dbCnt s.toRegisters ch).trans (countDownDb_eq_ite ..)
  case sil => exact fun k hk _ => shiftSilence_silAt s.toRegisters hk
  case silLast => exact shiftSilence_silAt_last s.toRegisters
  case blinkCnt => rfl

/-- Settles O3: `IDLE`'s row tests the selector bits alone, and its meaning is the identity on the working copy. -/
theorem idleLeavesTheWorkingCopy : Obligations.IdleLeavesTheWorkingCopy :=
  ⟨selectedBy_idle_iff, exec_idle⟩

end Sys2Proof.Machine
end

section
/-! SUPPORT. `41_debounce.md`: one channel's three debounce fields taken together, what each operation and each step make
of them (R72), and what the presses alone write (R89, R90). -/

namespace Sys2Proof.Machine

/-- One channel's debounce fields: its state, its line's interrupt enable and its counter (R16, R20, R25). -/
structure ChannelState where
  isDebouncing : Bool
  irqEn : Bool
  dbCnt : DbCount

/-- Idle, as `SERVICE` and `RESET` leave a channel (R80, R124). -/
def ChannelState.idle : ChannelState := ⟨false, true, 0#6⟩

/-- PendingConfirm, as an accepted edge leaves a channel (R74, R75). -/
def ChannelState.armed : ChannelState := ⟨true, false, 50#6⟩

/-- A channel after one time unit in which nothing happens to it (R69). -/
def ChannelState.tick (c : ChannelState) : ChannelState := { c with dbCnt := countDownDb c.isDebouncing c.dbCnt }

/-- Channel `ch`'s debounce fields as the registers hold them. -/
def Registers.channel (r : Registers) (ch : Channel) : ChannelState :=
  ⟨r.isDebouncing.get ch, r.irqEn.get ch, r.dbCnt.get ch⟩

/-- What an operation makes of channel `ch`: the channel's own edge arms it, its own confirmation and `RESET` return it to
Idle, `ADVANCE` counts, and no other operation touches it (R72); `channel_perform` ties it to `Registers.perform`. -/
def ChannelState.perform (ch : Channel) (c : ChannelState) (i : Instr) : ChannelState :=
  if i = edgeOf ch then .armed
  else if i = pressOf ch ∨ i = rejectOf ch ∨ i = .reset then .idle
  else if i = .advance then c.tick
  else c

theorem channel_perform (r : Registers) (v : InputVec) (i : Instr) (ch : Channel) :
    (r.perform v i).channel ch = (r.channel ch).perform ch i := by
  cases i <;> cases ch <;> rfl

theorem select_form_of_rst (r : Registers) {v : InputVec} (hrst : v.rst = true) : select (r.form v) = [.reset] :=
  select_of_rst ((pack_rst ..).trans hrst)

/-- In a reset step `RESET` acts alone (R61, R124). -/
theorem next_of_rst (r : Registers) {v : InputVec} (hrst : v.rst = true) : r.next v = .ofReset v := by
  rw [Registers.next, select_form_of_rst r hrst]
  rfl

section step

variable (s : State) (ch : Channel)

theorem selects_reset : s.selects .reset = s.rst := selectedBy_reset_form ..

theorem selects_advance : s.selects .advance = !s.rst := selectedBy_advance_form ..

theorem selects_pressInc : s.selects .pressInc = s.pressConfirmed .inc := (rfl)

theorem selects_pressDec : s.selects .pressDec = s.pressConfirmed .dec := (rfl)

/-- `Registers.next_eq_foldl_performOrder` with the selected operations read off the state. -/
theorem next_eq_foldl_selects :
    s.toRegisters.next s.input =
      performOrder.foldl (fun r i => if s.selects i = true then r.perform s.input i else r) s.toRegisters :=
  Registers.next_eq_foldl_performOrder ..

/-- A channel's debounce fields after a step come from its own fields before it and the selected operations alone. -/
theorem channel_next_eq_foldl :
    (s.toRegisters.next s.input).channel ch =
      performOrder.foldl (fun c i => if s.selects i = true then c.perform ch i else c) (s.channel ch) := by
  rw [next_eq_foldl_selects]
  refine (List.foldl_hom (Registers.channel · ch) fun r i => ?_).symm
  rw [apply_ite (Registers.channel · ch), channel_perform]

/-- The last operation of the step that shows in a channel decides it: its own confirmation, else its own edge, else the
operation the step began with (R67). -/
theorem channel_next_eq_selects :
    (s.toRegisters.next s.input).channel ch =
      if s.pressRejected ch = true ∨ s.pressConfirmed ch = true then .idle
      else if s.selects (edgeOf ch) = true then .armed
      else if s.rst = true then .idle
      else (s.channel ch).tick := by
  rw [channel_next_eq_foldl]
  cases hrst : s.rst <;> cases ch <;>
    simp [performOrder, ChannelState.perform, edgeOf, pressOf, rejectOf, State.pressRejected, State.pressConfirmed,
      selects_reset, selects_advance, hrst, ite_or]

/-- The complete transitions of a channel (R72). An edge and a confirmation of one channel never share a step, so it does
not matter which of the two is asked for first. -/
theorem channel_next_eq :
    (s.toRegisters.next s.input).channel ch =
      if s.rst = true then .idle
      else if s.edgeAccepted ch = true then .armed
      else if s.confirmationServiced ch = true then .idle
      else (s.channel ch).tick := by
  rw [channel_next_eq_selects, pressRejected_eq, pressConfirmed_eq, selects_edgeOf_eq]
  cases hrst : s.rst
  case true => simp
  case false =>
    cases hedge : s.edgeAccepted ch
    case true =>
      have hserviced := ((formation_exclusions s).1 ch hedge).2
      simp [hserviced]
    case false =>
      cases s.line ch <;> simp

/-- At most one press is confirmed in a step, as at most one confirmation is serviced (R58). -/
theorem pressConfirmed_dec_of_inc (hinc : s.pressConfirmed .inc = true) : s.pressConfirmed .dec = false := by
  simp only [pressConfirmed_eq, Bool.and_eq_true] at hinc ⊢
  obtain ⟨⟨-, hserviced⟩, -⟩ := hinc
  simp [(formation_exclusions s).2 hserviced]

/-- Outside a reset step nothing but a press writes the digit (R86, R87, R91). -/
theorem next_digit :
    (s.toRegisters.next s.input).digit =
      if s.rst = true then 0
      else if s.pressConfirmed .inc = true then incDigit s.digit
      else if s.pressConfirmed .dec = true then decDigit s.digit
      else s.digit := by
  cases hrst : s.rst
  case true => simp [next_of_rst s.toRegisters hrst]
  case false =>
    rw [next_eq_foldl_selects]
    by_cases hinc : s.pressConfirmed .inc = true
    · simp [performOrder, Registers.perform, apply_ite Registers.digit, selects_reset, selects_pressInc,
        selects_pressDec, hrst, hinc, pressConfirmed_dec_of_inc s hinc]
    · simp [performOrder, Registers.perform, apply_ite Registers.digit, selects_reset, selects_pressInc,
        selects_pressDec, hrst, hinc]

/-- Outside a reset step nothing but a press writes `pwm_en` (R23). -/
theorem next_pwmEn : (s.toRegisters.next s.input).pwmEn = (!s.rst && (s.pwmEn || s.anyPress)) := by
  cases hrst : s.rst
  case true => simp [next_of_rst s.toRegisters hrst]
  case false =>
    rw [next_eq_foldl_selects]
    simp [performOrder, Registers.perform, apply_ite Registers.pwmEn, selects_reset, selects_pressInc, selects_pressDec,
      hrst, State.anyPress, ← Bool.or_assoc, Bool.or_comm]

/-- The silence line is emptied by `RESET` and shifted by `ADVANCE`; after the shift a press alone writes it (R69, R103). -/
theorem next_sil :
    (s.toRegisters.next s.input).sil =
      if s.rst = true then 0#200
      else if s.anyPress = true then s.shiftSilence.armSilence.sil
      else s.shiftSilence.sil := by
  cases hrst : s.rst
  case true => simp [next_of_rst s.toRegisters hrst]
  case false =>
    rw [next_eq_foldl_selects]
    by_cases hinc : s.pressConfirmed .inc = true
    · simp [performOrder, Registers.perform, apply_ite Registers.sil, selects_reset, selects_advance, selects_pressInc,
        selects_pressDec, hrst, State.anyPress, hinc, pressConfirmed_dec_of_inc s hinc]
    · simp [performOrder, Registers.perform, apply_ite Registers.sil, selects_reset, selects_advance, selects_pressInc,
        selects_pressDec, hrst, State.anyPress, hinc]

/-- Bit 200 of the silence line stands after a step exactly if the step confirmed a press (R103). -/
theorem next_silAt_last : (s.toRegisters.next s.input).silAt 200 = (!s.rst && s.anyPress) := by
  rw [Registers.silAt, next_sil]
  cases s.rst
  case true => simp
  case false =>
    cases s.anyPress
    case true => exact (armSilence_silAt s.shiftSilence (by decide) (by decide)).trans (Bool.or_true _)
    case false => exact shiftSilence_silAt_last s.toRegisters

end step

/-- What a step that accepts an edge of `ch` ends with, whatever else it selects (R74, R75). -/
theorem edge_step {s : State} {ch : Channel} (h : s.selects (edgeOf ch) = true) :
    s.pressConfirmed ch = false ∧ s.pressRejected ch = false ∧
      ∃ t, step s = .next t ∧ t.isDebouncing.get ch = true ∧ t.irqEn.get ch = false ∧ t.dbCnt.get ch = 50#6 ∧
        t.prevN.get ch = false := by
  rw [selects_edgeOf_eq, Bool.and_eq_true, Bool.not_eq_true'] at h
  obtain ⟨hrst, hedge⟩ := h
  obtain ⟨hline, hserviced⟩ := (formation_exclusions s).1 ch hedge
  have hchannel : (s.toRegisters.next s.input).channel ch = .armed := by simp [channel_next_eq, hrst, hedge]
  obtain ⟨hpending, hirq, hcount⟩ := ChannelState.mk.inj hchannel
  have hprev : (s.toRegisters.next s.input).prevN.get ch = false := by
    rw [Registers.next_prevN]
    cases ch <;> exact hline
  exact ⟨by simp [pressConfirmed_eq, hserviced], by simp [pressRejected_eq, hserviced], _, step_eq s, hpending, hirq,
    hcount, hprev⟩

/-- A rejection is the one confirmation of its step (R58), so the step confirms no press. -/
theorem anyPress_of_pressRejected {s : State} {ch : Channel} (h : s.pressRejected ch = true) : s.anyPress = false := by
  simp only [pressRejected_eq, Bool.and_eq_true] at h
  obtain ⟨⟨-, hserviced⟩, hline⟩ := h
  have hexcl := (formation_exclusions s).2
  cases ch
  case inc => simp [State.anyPress, pressConfirmed_eq, hline, hexcl hserviced]
  case dec =>
    have hinc : s.confirmationServiced .inc = false :=
      Bool.eq_false_iff.2 fun hinc => by simp [hexcl hinc] at hserviced
    simp [State.anyPress, pressConfirmed_eq, hline, hinc]

/-- What a step that rejects on `ch` ends with, whatever else it selects (R82, R83). -/
theorem reject_step {s : State} {ch : Channel} (h : s.pressRejected ch = true) :
    ∃ t, step s = .next t ∧ t.isDebouncing.get ch = false ∧ t.irqEn.get ch = true ∧ t.dbCnt.get ch = 0#6 ∧
      t.digit = s.digit ∧ t.pwmEn = s.pwmEn ∧ t.renderStb = false ∧ t.toneStartStb = false ∧ t.silAt 200 = false := by
  have hpress := anyPress_of_pressRejected h
  have hnone : s.pressConfirmed .inc = false ∧ s.pressConfirmed .dec = false := Bool.or_eq_false_iff.1 hpress
  have hrst : s.rst = false := by
    rw [pressRejected_eq, Bool.and_assoc, Bool.and_eq_true, Bool.not_eq_true'] at h
    exact h.1
  have hchannel : (s.toRegisters.next s.input).channel ch = .idle := by simp [channel_next_eq_selects, h]
  obtain ⟨hpending, hirq, hcount⟩ := ChannelState.mk.inj hchannel
  refine ⟨_, step_eq s, hpending, hirq, hcount, ?digit, ?pwmEn, ?render, ?start, ?sil⟩
  case digit => exact (next_digit s).trans (by simp [hrst, hnone])
  case pwmEn => exact (next_pwmEn s).trans (by simp [hrst, hpress])
  case render => exact (Registers.next_renderStb ..).trans hpress
  case start => exact (Registers.next_toneStartStb ..).trans hpress
  case sil => exact (next_silAt_last s).trans (by simp [hpress])

/-- A step reads the registers through `Registers.next` alone; the rest of it is the environment's (R66). -/
theorem step_congr {s s' : State} (henv : s.toEnvironment = s'.toEnvironment)
    (hnext : s.toRegisters.next s.input = s'.toRegisters.next s'.input) : step s = step s' := by
  rw [step_eq, step_eq]
  simp only [State.onRegisters, State.consumeInput, hnext]
  rw [henv]

/-- The first operation of every step, `RESET` or `ADVANCE`, overwrites `prev_n` before any operation could read it: beside
the event word the earlier samples play no part (R26, R66). -/
theorem next_forgets_prevN (r : Registers) (v : InputVec) (p : PerChannel Bool)
    (hform : Registers.form { r with prevN := p } v = r.form v) :
    Registers.next { r with prevN := p } v = r.next v := by
  cases hrst : v.rst
  case true => rw [next_of_rst _ hrst, next_of_rst _ hrst]
  case false =>
    have hselect : select (r.form v) = .advance :: (select (r.form v)).tail := by
      simp [select, performOrder, hrst]
    rw [Registers.next, Registers.next, hform, hselect]
    rfl

/-- On a line whose interrupt is disabled no earlier sample makes an edge, so formation does not see it (R57, R76). -/
theorem form_set_prevN_of_disabled (r : Registers) (v : InputVec) {ch : Channel} (b : Bool)
    (hirq : r.irqEn.get ch = false) :
    Registers.form { r with prevN := r.prevN.set ch b } v = r.form v := by
  have hedge (ch') : Registers.edgeAccepted { r with prevN := r.prevN.set ch b } v ch' = r.edgeAccepted v ch' := by
    by_cases hch : ch' = ch
    · simp [Registers.edgeAccepted, hch, hirq]
    · simp [Registers.edgeAccepted, Registers.fall, PerChannel.get_set_other _ _ hch]
  rw [Registers.form, hedge, hedge]
  rfl

/-- A counter that makes its channel due is at 0 one time unit later (R16, R58). -/
theorem tick_of_due {r : Registers} {ch : Channel} (h : r.due ch = true) :
    (r.channel ch).tick = ⟨true, r.irqEn.get ch, 0#6⟩ := by
  obtain ⟨hpending, hcount⟩ := (due_iff r ch).1 h
  have hzero : countDownDb true (r.dbCnt.get ch) = 0#6 :=
    BitVec.eq_of_toNat_eq ((countDownDb_toNat true _).trans (Nat.sub_eq_zero_of_le hcount))
  simp [ChannelState.tick, Registers.channel, hpending, hzero]

/-- A step in which both confirmations are due returns Increment to Idle and leaves Decrement pending, its counter at 0
(R79). -/
theorem channel_next_of_both_due {s : State} (hrst : s.rst = false) (hinc : s.due .inc = true)
    (hdec : s.due .dec = true) :
    (s.toRegisters.next s.input).channel .inc = .idle ∧
      (s.toRegisters.next s.input).channel .dec = ⟨true, s.irqEn.dec, 0#6⟩ := by
  have hnoEdge (ch) (hdue : s.due ch = true) : s.edgeAccepted ch = false := by
    simp [edgeAccepted_eq, ((due_iff _ ch).1 hdue).1]
  constructor
  · simp [channel_next_eq, hrst, hnoEdge .inc hinc, Registers.confirmationServiced, hinc]
  · simp [channel_next_eq, hrst, hnoEdge .dec hdec, Registers.confirmationServiced, hinc, tick_of_due hdec]

end Sys2Proof.Machine
end

section
/-! CERTIFICATE. The statements of `41_debounce.md`. -/

namespace Sys2Proof.Machine

/-- Settles O4: the edge operation is selected by its bit, the bit is formed from the four conditions, and a step that
selects it ends with Increment armed. -/
theorem edgeIncStartsTheIncrementWindow : Obligations.EdgeIncStartsTheIncrementWindow :=
  ⟨selectedBy_edgeInc, fun s => selects_edgeOf_eq s .inc, fun _ h => edge_step (ch := .inc) h, exec_edgeInc⟩

/-- Settles O5, as O4 with the channels exchanged. -/
theorem edgeDecStartsTheDecrementWindow : Obligations.EdgeDecStartsTheDecrementWindow :=
  ⟨selectedBy_edgeDec, fun s => selects_edgeOf_eq s .dec, fun _ h => edge_step (ch := .dec) h, exec_edgeDec⟩

/-- Settles O6: a rejection returns its channel to Idle, and as its step confirms no press, nothing in it writes the digit,
`pwm_en`, the start strobes or the silence line's last place. -/
theorem rejectIncOnlyReturnsTheChannelToIdle : Obligations.RejectIncOnlyReturnsTheChannelToIdle :=
  ⟨selectedBy_rejectInc, fun _ h => reject_step (ch := .inc) h, exec_rejectInc⟩

/-- Settles O7, as O6 with the channels exchanged. -/
theorem rejectDecOnlyReturnsTheChannelToIdle : Obligations.RejectDecOnlyReturnsTheChannelToIdle :=
  ⟨selectedBy_rejectDec, fun _ h => reject_step (ch := .dec) h, exec_rejectDec⟩

/-- Settles O29: the two fields are read off the channel's complete transitions. -/
theorem channelStateMovesOnlyOnEdgeServiceOrReset : Obligations.ChannelStateMovesOnlyOnEdgeServiceOrReset := by
  intro s ch
  have hnext := channel_next_eq s ch
  refine ⟨_, step_eq s, (congrArg ChannelState.isDebouncing hnext).trans ?_, (congrArg ChannelState.irqEn hnext).trans ?_⟩
  · simp only [apply_ite ChannelState.isDebouncing]
    rfl
  · simp only [apply_ite ChannelState.irqEn]
    rfl

/-- Settles O37: a disabled line forms no edge whatever its previous sample was, and nothing but formation reads that
sample; in the step of the channel's own service it is the service that excludes the edge. -/
theorem edgeOnADisabledLineIsDropped : Obligations.EdgeOnADisabledLineIsDropped := by
  refine ⟨fun s ch hirq => ?_, fun s ch hrst hfall hserviced => ?_⟩
  · have hedge : s.edgeAccepted ch = false := by simp [edgeAccepted_eq, hirq]
    have hsame := next_forgets_prevN s.toRegisters s.input _ (form_set_prevN_of_disabled _ _ false hirq)
    refine ⟨(form_edge s ch).trans hedge, by simp [selects_edgeOf_eq, hedge], step_congr rfl hsame.symm⟩
  · have hedge : s.edgeAccepted ch = false :=
      Bool.eq_false_iff.2 fun hedge => by simp [((formation_exclusions s).1 ch hedge).2] at hserviced
    rw [fall_eq, Bool.and_eq_true, Bool.not_eq_true'] at hfall
    simp [selects_edgeOf_eq, pressConfirmed_eq, hedge, hrst, hserviced, hfall.2]

/-- Settles O38: the service's only question is the level of the line. -/
theorem serviceIsAPressExactlyWhenTheLineIsLow : Obligations.ServiceIsAPressExactlyWhenTheLineIsLow := by
  intro s ch hrst hserviced
  rw [pressConfirmed_eq, pressRejected_eq, hrst, hserviced]
  exact ⟨rfl, rfl⟩

/-- Settles O39: Increment goes first and is Idle afterwards; the `ADVANCE` of the same step leaves Decrement pending at 0,
which is due again, and now alone. -/
theorem arbiterServicesIncrementThenDecrement : Obligations.ArbiterServicesIncrementThenDecrement := by
  intro s hrst hinc hdec
  have hheld : s.confirmationServiced .dec = false := (formation_exclusions s).2 hinc
  obtain ⟨t, ht, hregs⟩ : ∃ t, step s = .next t ∧ t.toRegisters = s.toRegisters.next s.input := ⟨_, step_eq s, rfl⟩
  obtain ⟨hincNext, hdecNext⟩ := channel_next_of_both_due hrst hinc hdec
  rw [← hregs] at hincNext hdecNext
  obtain ⟨hincIdle, -, -⟩ := ChannelState.mk.inj hincNext
  obtain ⟨hdecPending, -, hdecCount⟩ := ChannelState.mk.inj hdecNext
  have hincNotDue : t.due .inc = false := by simp [due_eq, hincIdle]
  have hdecDue : t.due .dec = true := (due_iff _ _).2 ⟨hdecPending, by simp [hdecCount]⟩
  have hdecServiced : t.confirmationServiced .dec = true := by
    simp [Registers.confirmationServiced, hdecDue, hincNotDue]
  exact ⟨(form_serviced s .inc).trans hinc, (form_serviced s .dec).trans hheld, t, ht, hincIdle, hdecPending, hdecCount,
    (form_serviced t .inc).trans hincNotDue, (form_serviced t .dec).trans hdecServiced,
    fun hrstNext => (serviceIsAPressExactlyWhenTheLineIsLow t .dec hrstNext hdecServiced).1⟩

end Sys2Proof.Machine
end

section
/-! SUPPORT. `42_application.md`: what a step that confirms a press ends with, on either channel (R81, R88 to R90). -/

namespace Sys2Proof.Machine

/-- The digit one confirmed press on a channel further (R86, R87). -/
def pressedDigit : Channel → Digit → Digit
  | .inc => incDigit
  | .dec => decDigit

/-- What a step from `s` to `t` that confirms a press on `ch` ends with, whatever else it selects (R89, R90);
`press_step` ties it to `step`. -/
structure PressEnds (ch : Channel) (s t : State) : Prop where
  digit : t.digit = pressedDigit ch s.digit
  toneOn : t.toneOn = true
  pwmEn : t.pwmEn = true
  toneStartStb : t.toneStartStb = true
  renderStb : t.renderStb = true
  toneStopStb : t.toneStopStb = s.selects .silence
  silAt_last : t.silAt 200 = true
  silAt_shift : ∀ k, 1 ≤ k → k ≤ 199 → t.silAt k = s.silAt (k + 1)
  isDebouncing : t.isDebouncing.get ch = false
  irqEn : t.irqEn.get ch = true

section arm

variable (r : Registers)

theorem armSilence_silAt_last : r.armSilence.silAt 200 = true :=
  (armSilence_silAt r (by decide) (by decide)).trans (Bool.or_true _)

theorem armSilence_silAt_of_le_199 (k : Nat) (h : 1 ≤ k) (h' : k ≤ 199) : r.armSilence.silAt k = r.silAt k := by
  have hnotLast : k ≠ 200 := by omega
  simp [armSilence_silAt r h (Nat.le_succ_of_le h'), hnotLast]

end arm

section step

variable (s : State)

/-- Of a step that is no reset, a press starts the tone, and as it acts after `SILENCE` it wins over the stop (R22, R101). -/
theorem next_toneOn :
    (s.toRegisters.next s.input).toneOn = (!s.rst && (s.anyPress || s.toneOn && !s.selects .silence)) := by
  cases hrst : s.rst
  case true => simp [next_of_rst s.toRegisters hrst]
  case false =>
    rw [next_eq_foldl_selects]
    simp [performOrder, Registers.perform, apply_ite Registers.toneOn, selects_reset, selects_pressInc,
      selects_pressDec, hrst, State.anyPress, Bool.or_comm, Bool.or_assoc, Bool.and_comm]

/-- Below the last place a step only moves the pending timers on, whether or not a press arms a new one (R69, R103). -/
theorem next_silAt_of_le_199 (hrst : s.rst = false) (k : Nat) (h : 1 ≤ k) (h' : k ≤ 199) :
    (s.toRegisters.next s.input).silAt k = s.silAt (k + 1) := by
  have hshift := shiftSilence_silAt s.toRegisters h
  rw [Registers.silAt, next_sil, hrst]
  cases s.anyPress
  case true => exact (armSilence_silAt_of_le_199 s.shiftSilence k h h').trans hshift
  case false => exact hshift

end step

section press

variable {s : State} {ch : Channel}

theorem anyPress_of_pressConfirmed (h : s.pressConfirmed ch = true) : s.anyPress = true := by
  cases ch <;> simp [State.anyPress, h]

/-- A press is confirmed outside a reset step, by a service of its channel (R58, R61). -/
theorem rst_and_serviced_of_pressConfirmed (h : s.pressConfirmed ch = true) :
    s.rst = false ∧ s.confirmationServiced ch = true := by
  simp only [pressConfirmed_eq, Bool.and_eq_true, Bool.not_eq_true'] at h
  exact h.1

/-- The two presses exclude each other, so the digit moves by the one confirmed (R58, R91). -/
theorem next_digit_of_pressConfirmed (h : s.pressConfirmed ch = true) :
    (s.toRegisters.next s.input).digit = pressedDigit ch s.digit := by
  have hrst := (rst_and_serviced_of_pressConfirmed h).1
  rw [next_digit]
  cases ch
  case inc => simp [hrst, h, pressedDigit]
  case dec =>
    have hinc : s.pressConfirmed .inc = false :=
      Bool.eq_false_iff.2 fun hinc => by simp [pressConfirmed_dec_of_inc s hinc] at h
    simp [hrst, hinc, h, pressedDigit]

/-- Both presses, in one argument: every clause is the law of its field's next value, in a step with a press. -/
theorem press_step (h : s.pressConfirmed ch = true) : ∃ t, step s = .next t ∧ PressEnds ch s t := by
  have hrst := (rst_and_serviced_of_pressConfirmed h).1
  have hpress := anyPress_of_pressConfirmed h
  have hchannel : (s.toRegisters.next s.input).channel ch = .idle := by simp [channel_next_eq_selects, h]
  obtain ⟨hidle, hirq, -⟩ := ChannelState.mk.inj hchannel
  exact ⟨_, step_eq s,
    { digit := next_digit_of_pressConfirmed h
      toneOn := (next_toneOn s).trans (by simp [hrst, hpress])
      pwmEn := (next_pwmEn s).trans (by simp [hrst, hpress])
      toneStartStb := (Registers.next_toneStartStb ..).trans hpress
      renderStb := (Registers.next_renderStb ..).trans hpress
      toneStopStb := Registers.next_toneStopStb ..
      silAt_last := (next_silAt_last s).trans (by simp [hrst, hpress])
      silAt_shift := next_silAt_of_le_199 s hrst
      isDebouncing := hidle
      irqEn := hirq }⟩

/-- Decrement is serviced only while Increment is not due (R58). -/
theorem not_due_inc_of_pressDec (h : s.pressConfirmed .dec = true) : s.due .inc = false := by
  have hserviced : (s.due .dec && !s.due .inc) = true := (rst_and_serviced_of_pressConfirmed h).2
  rw [Bool.and_eq_true, Bool.not_eq_true'] at hserviced
  exact hserviced.2

end press

end Sys2Proof.Machine
end

section
/-! CERTIFICATE. The statements of `42_application.md` on the presses and the digit. -/

namespace Sys2Proof.Machine

/-- Decrement, when due together with a press on Increment, is serviced in the next step (R79). -/
theorem servicedNow_dec_after_pressInc {s t : State} (h : s.pressConfirmed .inc = true) (hstep : step s = .next t)
    (hdec : s.due .dec = true) : t.servicedNow .dec = true := by
  obtain ⟨hrst, hinc⟩ := rst_and_serviced_of_pressConfirmed h
  obtain ⟨-, -, t', hstep', -, -, -, -, hserviced, -⟩ := arbiterServicesIncrementThenDecrement s hrst hinc hdec
  cases hstep.symm.trans hstep'
  exact hserviced

/-- Settles O8: the press acts last of the operations that write the tone and after `ADVANCE`'s shift, so its own writes
stand at the end of the step; as an operation it writes what R89 names, and every other field is the one it was. -/
theorem pressIncMovesTheDigitUpAndRequestsToneAndRender :
    Obligations.PressIncMovesTheDigitUpAndRequestsToneAndRender := by
  refine ⟨selectedBy_pressInc, fun s h => ?step, fun s => ?exec⟩
  case step =>
    obtain ⟨t, hstep, ends⟩ := press_step (ch := .inc) h
    exact ⟨t, hstep, congrArg Fin.val ends.digit, ends.toneOn, ends.pwmEn, ends.toneStartStb, ends.renderStb,
      ends.toneStopStb, ends.silAt_last, ends.silAt_shift, ends.isDebouncing, ends.irqEn, rfl, rfl,
      servicedNow_dec_after_pressInc h hstep⟩
  case exec =>
    exact ⟨_, exec_pressInc s, incDigit_val s.digit, rfl, rfl, rfl, rfl, armSilence_silAt_last s.toRegisters,
      armSilence_silAt_of_le_199 s.toRegisters, rfl, rfl, rfl, rfl, rfl, rfl, rfl, rfl, rfl⟩

/-- Settles O9, as O8 with the channels exchanged and the digit down; here it is the arbiter that keeps Increment out of
the step. -/
theorem pressDecMovesTheDigitDownAndRequestsToneAndRender :
    Obligations.PressDecMovesTheDigitDownAndRequestsToneAndRender := by
  refine ⟨selectedBy_pressDec, fun s h => ?step, fun s => ?exec⟩
  case step =>
    obtain ⟨t, hstep, ends⟩ := press_step (ch := .dec) h
    exact ⟨t, hstep, (congrArg Fin.val ends.digit).trans (decDigit_val s.digit), ends.toneOn, ends.pwmEn,
      ends.toneStartStb, ends.renderStb, ends.toneStopStb, ends.silAt_last, ends.silAt_shift, ends.isDebouncing,
      ends.irqEn, rfl, rfl, not_due_inc_of_pressDec h⟩
  case exec =>
    exact ⟨_, exec_pressDec s, decDigit_val s.digit, rfl, rfl, rfl, rfl, armSilence_silAt_last s.toRegisters,
      armSilence_silAt_of_le_199 s.toRegisters, rfl, rfl, rfl, rfl, rfl, rfl, rfl, rfl, rfl⟩

/-- Settles O28: the digit's law of `next_digit`, read as numbers. -/
theorem theDigitMovesOnlyOnAConfirmedPress : Obligations.TheDigitMovesOnlyOnAConfirmedPress := by
  intro s
  refine ⟨_, step_eq s, (congrArg Fin.val (next_digit s)).trans ?_⟩
  simp only [apply_ite Fin.val, incDigit_val, decDigit_val]
  rfl

end Sys2Proof.Machine
end

section
/-! SUPPORT. `44_timers.md`: the timers' fields after every step (R69, R103, R109). -/

namespace Sys2Proof.Machine

section timers

variable (s : State)

/-- A step that performs anything but `RESET` is no reset step (R61). -/
theorem rst_of_selects {i : Instr} (hi : i ≠ .reset) (h : s.selects i = true) : s.rst = false := by
  refine Bool.eq_false_iff.2 fun hrst => hi ?_
  have honly := selectedBy_of_rst ((form_rst s).trans hrst) i
  exact of_decide_eq_true (honly.symm.trans h)

/-- No press is confirmed in a reset step (R61). -/
theorem not_rst_and_anyPress : (!s.rst && s.anyPress) = s.anyPress := by
  cases hrst : s.rst <;> simp [State.anyPress, pressConfirmed_eq, hrst]

/-- A place of the silence line below the last takes what stood one place higher, and is emptied by a reset (R69, R103). -/
theorem next_silAt_shift (k : Nat) (h : 1 ≤ k) (h' : k ≤ 199) :
    (s.toRegisters.next s.input).silAt k = (!s.rst && s.silAt (k + 1)) := by
  cases hrst : s.rst
  case true => simp [next_of_rst s.toRegisters hrst, Registers.silAt]
  case false => exact next_silAt_of_le_199 s hrst k h h'

/-- Outside a reset step nothing but `BLINK` writes the status output (R21, R109). -/
theorem next_statusLed :
    (s.toRegisters.next s.input).statusLed = (!s.rst && (s.statusLed ^^ s.selects .blink)) := by
  cases hrst : s.rst
  case true => simp [next_of_rst s.toRegisters hrst]
  case false =>
    rw [next_eq_foldl_selects]
    cases hblink : s.selects .blink <;>
      simp [performOrder, Registers.perform, apply_ite Registers.statusLed, selects_reset, hrst, hblink]

/-- The blink counter is reloaded by `RESET` and by `BLINK`, and counts down in every other step (R17, R69, R109). -/
theorem next_blinkCnt :
    (s.toRegisters.next s.input).blinkCnt =
      if s.rst = true ∨ s.selects .blink = true then 100#7 else countDownBlinkCount s.blinkCnt := by
  cases hrst : s.rst
  case true => simp [next_of_rst s.toRegisters hrst]
  case false =>
    rw [next_eq_foldl_selects]
    cases hblink : s.selects .blink <;>
      simp [performOrder, Registers.perform, apply_ite Registers.blinkCnt, selects_reset, selects_advance, hrst, hblink]

end timers

end Sys2Proof.Machine
end

section
/-! CERTIFICATE. The statements of `44_timers.md` on the silence line, `SILENCE` and `BLINK`. -/

namespace Sys2Proof.Machine

/-- Settles O10: `SILENCE` acts between `ADVANCE`, which uses its timer up, and a press, which starts the tone again; each
clause is the law of its field's next value in a step that is no reset. -/
theorem silenceStopsTheToneAndKeepsThePeripheral : Obligations.SilenceStopsTheToneAndKeepsThePeripheral := by
  refine ⟨selectedBy_silence, fun s h => ?_, exec_silence⟩
  have hrst : s.rst = false := rst_of_selects s (by decide) h
  refine ⟨_, step_eq s, ?stop, ?tone, ?last, next_silAt_of_le_199 s hrst, ?pwm⟩
  case stop => exact (Registers.next_toneStopStb ..).trans h
  case tone => exact (next_toneOn s).trans (by simp [hrst, h])
  case last => exact (next_silAt_last s).trans (not_rst_and_anyPress s)
  case pwm => exact (next_pwmEn s).trans (by simp [hrst, Bool.or_comm])

/-- Settles O11: of the operations of a step that is no reset, `BLINK` alone writes the status output, and none after it
writes the blink counter. -/
theorem blinkInvertsTheStatusOutput : Obligations.BlinkInvertsTheStatusOutput := by
  refine ⟨selectedBy_blink, fun s h => ?_, exec_blink⟩
  have hrst : s.rst = false := rst_of_selects s (by decide) h
  exact ⟨_, step_eq s, (next_statusLed s).trans (by simp [hrst, h]), (next_blinkCnt s).trans (by simp [h])⟩

/-- Settles O35: the last place follows the presses, which a reset step has none of, and every other place the shift. -/
theorem silenceLineShiftsAndIsArmedByAPress : Obligations.SilenceLineShiftsAndIsArmedByAPress := fun s =>
  ⟨_, step_eq s, (next_silAt_last s).trans (not_rst_and_anyPress s), next_silAt_shift s⟩

end Sys2Proof.Machine
end

section
/-! CERTIFICATE. The statement of `70_reset_and_hazards.md` on `RESET`. -/

namespace Sys2Proof.Machine

/-- Settles O1: every row but `RESET`'s asks for `RST = 0`; `RESET` answers `Registers.ofReset` of the sampled vector, which
reads nothing of the registers it replaces, so the ports show the reset digit with no `RENDER` before it. -/
theorem resetPutsEveryFieldAtItsResetValue : Obligations.ResetPutsEveryFieldAtItsResetValue := by
  refine ⟨selectedBy_reset, fun ev i hrst hselected => ?alone, fun s => ?outputs, exec_reset⟩
  case alone => exact of_decide_eq_true ((selectedBy_of_rst hrst i).symm.trans hselected)
  case outputs => exact ⟨_, exec_reset s, rfl, rfl⟩

end Sys2Proof.Machine
end

section
/-! SUPPORT. `30_encoding.md`: the reserved words, well-formedness read operation by operation, and the word that encodes a
bundle bit by bit (R55, R61, R62, R67). -/

namespace Sys2Proof.Machine

/-- A word is packed from its own bits (R55). -/
theorem pack_eta (ev : EventWord) :
    EventWord.pack (EventWord.rst ev) (EventWord.edge ev .dec) (EventWord.edge ev .inc) (EventWord.silenceFires ev)
      (EventWord.blinkFires ev) (EventWord.serviced ev .dec) (EventWord.serviced ev .inc) (EventWord.level ev .dec)
      (EventWord.level ev .inc) = ev := by
  cases ev using eventWord_cases with
  | pack => simp

/-- The words that R62 reserves; `reservedPattern_eq_none_iff` ties it to the decoder's test. -/
def Reserved (ev : EventWord) : Prop :=
  (EventWord.serviced ev .inc = true ∧ EventWord.serviced ev .dec = true) ∨
    ∃ ch, EventWord.edge ev ch = true ∧ (EventWord.serviced ev ch = true ∨ EventWord.level ev ch = true)

theorem exists_channel_iff {p : Channel → Prop} : (∃ ch, p ch) ↔ p .inc ∨ p .dec := by
  refine ⟨fun ⟨ch, h⟩ => ?_, fun h => h.elim (⟨.inc, ·⟩) (⟨.dec, ·⟩)⟩
  cases ch
  · exact .inl h
  · exact .inr h

theorem reservedPattern_eq_none_iff (ev : EventWord) : reservedPattern ev = none ↔ ¬ Reserved ev := by
  rw [Reserved, exists_channel_iff]
  unfold reservedPattern
  grind

/-- Of the parts of well-formedness only the operations' own asks nothing: no operation has an operand field (R61). -/
theorem wf_iff (b : Bundle) :
    Bundle.wf b = true ↔
      (Instr.reset ∈ b → b = [.reset]) ∧ (Instr.reset ∈ b ∨ b.head? = some .advance) ∧ Bundle.inOrder b = true ∧
        ((Instr.idle ∈ b → b = [.advance, .idle]) ∧ b ≠ [.advance]) ∧
        (Instr.edgeInc ∈ b → Instr.pressInc ∉ b ∧ Instr.rejectInc ∉ b) ∧
        (Instr.edgeDec ∈ b → Instr.pressDec ∉ b ∧ Instr.rejectDec ∉ b) := by
  have hall : b.all Instr.wf = true := List.all_eq_true.2 fun i _ => by cases i <;> rfl
  simp only [Bundle.wf, hall, Bundle.resetAlone, Bundle.advanceFirst, Bundle.idleExactlyAlone,
    Bundle.noEdgeWithOwnConfirmation, List.contains_eq_mem, Bool.and_eq_true, Bool.or_eq_true, Bool.not_eq_true',
    Bool.and_eq_false_imp, Bool.or_eq_false_iff, decide_eq_true_iff, decide_eq_false_iff_not, true_and, and_assoc,
    ← imp_iff_not_or]

/-- The levels that fit a bundle, operation by operation (R57, R61). -/
theorem fitsLevels_iff (b : Bundle) (ld li : Bool) :
    Bundle.fitsLevels b ld li = true ↔
      (Instr.edgeInc ∈ b ∨ Instr.pressInc ∈ b → li = false) ∧ (Instr.rejectInc ∈ b → li = true) ∧
        (Instr.edgeDec ∈ b ∨ Instr.pressDec ∈ b → ld = false) ∧ (Instr.rejectDec ∈ b → ld = true) := by
  simp only [Bundle.fitsLevels, List.contains_eq_mem, Bool.and_eq_true, Bool.or_eq_true, Bool.not_eq_true',
    Bool.or_eq_false_iff, decide_eq_false_iff_not, and_assoc, ← not_or, ← imp_iff_not_or]

/-- An operation's place in the order of R67. -/
def place (i : Instr) : Nat := performOrder.idxOf i

/-- A bundle in the order of R67 is what its operations select from that order: it holds none twice, and one list alone has
given members in a given order. -/
theorem eq_filter_performOrder {b : Bundle} (hb : Bundle.inOrder b = true) : b = performOrder.filter (b.contains ·) := by
  have hrank : ∀ i j : Instr, i.rank < j.rank → place i < place j := by
    intro i j
    cases i <;> cases j <;> decide
  have hsorted : b.Pairwise (place · < place ·) := (of_decide_eq_true hb).imp (hrank _ _)
  have hsorted' : (performOrder.filter (b.contains ·)).Pairwise (place · < place ·) :=
    List.Pairwise.filter _ (by decide)
  have hnodup {l : Bundle} (h : l.Pairwise (place · < place ·)) : l.Nodup :=
    h.imp (fun hij => ne_of_apply_ne place hij.ne)
  have hlisted (i : Instr) : i ∈ performOrder := by cases i <;> decide
  refine List.Perm.eq_of_pairwise (fun i j _ _ hij hji => absurd hij (Nat.lt_asymm hji)) hsorted hsorted' ?_
  exact (List.perm_ext_iff_of_nodup (hnodup hsorted) (hnodup hsorted')).2 fun i => by simp [hlisted]

/-- Two operations that share a rank are not both in a bundle (R58, R67). -/
theorem not_mem_of_rank_eq {b : Bundle} (hb : Bundle.inOrder b = true) (i j : Instr) (hij : i ≠ j)
    (hrank : i.rank = j.rank) (hi : i ∈ b) : j ∉ b := fun hj => by
  have hsymm : Std.Symm fun i j : Instr => i.rank ≠ j.rank := ⟨fun _ _ => Ne.symm⟩
  exact ((of_decide_eq_true hb).imp Nat.ne_of_lt).forall hi hj hij hrank

/-- A bundle holds none of the eight event rows' operations (R61, R70). -/
def Bundle.NoEvent (b : Bundle) : Prop :=
  Instr.edgeInc ∉ b ∧ Instr.edgeDec ∉ b ∧ Instr.silence ∉ b ∧ Instr.blink ∉ b ∧ Instr.pressInc ∉ b ∧
    Instr.rejectInc ∉ b ∧ Instr.pressDec ∉ b ∧ Instr.rejectDec ∉ b

/-- A bundle in order that holds `ADVANCE` and no event row's operation is `ADVANCE` alone or `ADVANCE` with `IDLE` (R70). -/
theorem idle_mem_of_no_event {b : Bundle} (hb : Bundle.inOrder b = true) (hreset : Instr.reset ∉ b)
    (hadvance : Instr.advance ∈ b) (hnotAlone : b ≠ [.advance])
    (hnone : Bundle.NoEvent b) : Instr.idle ∈ b := by
  by_contra hidle
  rw [eq_filter_performOrder hb] at hnotAlone
  rw [Bundle.NoEvent] at hnone
  simp [performOrder, hreset, hadvance, hnone, hidle] at hnotAlone

/-- What well-formedness and fitting levels say of a bundle of a step that is no reset, operation by operation (R58, R61,
R62, R70); `selectable_of_wf` ties it to `Bundle.wf`. -/
structure Bundle.Selectable (b : Bundle) (ld li : Bool) : Prop where
  reset : Instr.reset ∉ b
  advance : Instr.advance ∈ b
  idle : Instr.idle ∈ b ↔ Bundle.NoEvent b
  oneService : Instr.pressInc ∈ b ∨ Instr.rejectInc ∈ b → Instr.pressDec ∉ b ∧ Instr.rejectDec ∉ b
  edgeInc : Instr.edgeInc ∈ b → Instr.pressInc ∉ b ∧ Instr.rejectInc ∉ b
  edgeDec : Instr.edgeDec ∈ b → Instr.pressDec ∉ b ∧ Instr.rejectDec ∉ b
  lowInc : Instr.edgeInc ∈ b ∨ Instr.pressInc ∈ b → li = false
  highInc : Instr.rejectInc ∈ b → li = true
  lowDec : Instr.edgeDec ∈ b ∨ Instr.pressDec ∈ b → ld = false
  highDec : Instr.rejectDec ∈ b → ld = true

theorem selectable_of_wf {b : Bundle} {ld li : Bool} (hwf : Bundle.wf b = true)
    (hfits : Bundle.fitsLevels b ld li = true) (hreset : Instr.reset ∉ b) : Bundle.Selectable b ld li := by
  obtain ⟨-, hhead, horder, ⟨hidleAlone, hnotAlone⟩, hedgeInc, hedgeDec⟩ := (wf_iff b).1 hwf
  obtain ⟨hlowInc, hhighInc, hlowDec, hhighDec⟩ := (fitsLevels_iff b ld li).1 hfits
  have hadvance : Instr.advance ∈ b := List.mem_of_head? (hhead.resolve_left hreset)
  have hone := not_mem_of_rank_eq horder
  refine ⟨hreset, hadvance, ⟨fun h => ?_, idle_mem_of_no_event horder hreset hadvance hnotAlone⟩, ?_, hedgeInc, hedgeDec,
    hlowInc, hhighInc, hlowDec, hhighDec⟩
  · simp [Bundle.NoEvent, hidleAlone h]
  · rintro (h | h)
    · exact ⟨hone .pressInc .pressDec (by decide) rfl h, hone .pressInc .rejectDec (by decide) rfl h⟩
    · exact ⟨hone .rejectInc .pressDec (by decide) rfl h, hone .rejectInc .rejectDec (by decide) rfl h⟩

/-- Two words are joined bit by bit. -/
theorem pack_or (rst ed ei sf bf cd ci ld li rst' ed' ei' sf' bf' cd' ci' ld' li' : Bool) :
    EventWord.pack rst ed ei sf bf cd ci ld li ||| EventWord.pack rst' ed' ei' sf' bf' cd' ci' ld' li' =
      .pack (rst || rst') (ed || ed') (ei || ei') (sf || sf') (bf || bf') (cd || cd') (ci || ci') (ld || ld')
        (li || li') := by
  have hrst (x y : EventWord) : EventWord.rst (x ||| y) = (EventWord.rst x || EventWord.rst y) := BitVec.getLsbD_or
  have hedge (x y : EventWord) (ch) : EventWord.edge (x ||| y) ch = (EventWord.edge x ch || EventWord.edge y ch) :=
    BitVec.getLsbD_or
  have hsilence (x y : EventWord) :
    EventWord.silenceFires (x ||| y) = (EventWord.silenceFires x || EventWord.silenceFires y) := BitVec.getLsbD_or
  have hblink (x y : EventWord) :
    EventWord.blinkFires (x ||| y) = (EventWord.blinkFires x || EventWord.blinkFires y) := BitVec.getLsbD_or
  have hserviced (x y : EventWord) (ch) :
    EventWord.serviced (x ||| y) ch = (EventWord.serviced x ch || EventWord.serviced y ch) := BitVec.getLsbD_or
  have hlevel (x y : EventWord) (ch) :
    EventWord.level (x ||| y) ch = (EventWord.level x ch || EventWord.level y ch) := BitVec.getLsbD_or
  rw [← pack_eta (_ ||| _)]
  simp [hrst, hedge, hsilence, hblink, hserviced, hlevel]

/-- Each bit of an encoded word says which operations the bundle holds; a level bit is the level, or set by a rejection
(R55, R61). -/
theorem encode_eq_pack (b : Bundle) (ld li : Bool) :
    encode b ld li =
      .pack (b.contains .reset) (b.contains .edgeDec) (b.contains .edgeInc) (b.contains .silence) (b.contains .blink)
        (b.contains .pressDec || b.contains .rejectDec) (b.contains .pressInc || b.contains .rejectInc)
        (b.contains .rejectDec || ld) (b.contains .rejectInc || li) := by
  induction b with
  | nil => simp [encode, encodeLevels]
  | cons i b ih =>
    have hpattern : i.pattern =
        .pack (.reset == i) (.edgeDec == i) (.edgeInc == i) (.silence == i) (.blink == i)
          (.pressDec == i || .rejectDec == i) (.pressInc == i || .rejectInc == i) (.rejectDec == i) (.rejectInc == i) := by
      cases i <;> decide
    have hcons : encode (i :: b) ld li = i.pattern ||| encode b ld li := rfl
    rw [hcons, ih, hpattern, pack_or]
    simp only [List.contains_cons]
    ac_rfl

/-- The encoded word of a bundle without `RESET` carries its levels, is not reserved, and selects the bundle's operations
(R61, R62). -/
theorem encode_of_selectable {b : Bundle} {ld li : Bool} (h : Bundle.Selectable b ld li) :
    EventWord.level (encode b ld li) .dec = ld ∧ EventWord.level (encode b ld li) .inc = li ∧
      ¬ Reserved (encode b ld li) ∧ ∀ i, i.selectedBy (encode b ld li) = b.contains i := by
  have hlevelDec : (b.contains .rejectDec || ld) = ld := by simpa using h.highDec
  have hlevelInc : (b.contains .rejectInc || li) = li := by simpa using h.highInc
  obtain ⟨hreset, hadvance, hidle, hservice, hedgeInc, hedgeDec, hlowInc, hhighInc, hlowDec, hhighDec⟩ := h
  rw [Bundle.NoEvent] at hidle
  rw [encode_eq_pack, hlevelDec, hlevelInc]
  simp only [List.contains_eq_mem, hreset, decide_false]
  refine ⟨pack_level_dec .., pack_level_inc .., ?_, fun i => ?_⟩
  · simp only [Reserved, exists_channel_iff, pack_serviced_inc, pack_serviced_dec, pack_edge_inc, pack_edge_dec,
      pack_level_inc, pack_level_dec, Bool.or_eq_true, decide_eq_true_iff]
    grind
  · cases i <;>
      simp only [selectedBy_reset, selectedBy_advance, selectedBy_edgeInc, selectedBy_edgeDec, selectedBy_silence,
        selectedBy_blink, selectedBy_pressInc, selectedBy_rejectInc, selectedBy_pressDec, selectedBy_rejectDec,
        selectedBy_idle, pack_rst, pack_edge_inc, pack_edge_dec, pack_silenceFires, pack_blinkFires, pack_serviced_inc,
        pack_serviced_dec, pack_level_inc, pack_level_dec] <;> grind

section select

variable {ev : EventWord}

/-- A selection keeps the order of R67; only two confirmations could share a rank in it (R58, R67). -/
theorem inOrder_select (h : ¬ Reserved ev) : Bundle.inOrder (select ev) = true := by
  rw [Reserved, exists_channel_iff] at h
  have hlisted : performOrder.Pairwise fun i j => i.rank < j.rank ∨
      (i, j) ∈ [(.pressInc, .rejectInc), (.pressInc, .pressDec), (.pressInc, .rejectDec), (.rejectInc, .pressDec),
        (.rejectInc, .rejectDec), (.pressDec, Instr.rejectDec)] := by decide
  refine decide_eq_true (List.pairwise_filter.2 (hlisted.imp fun hij hi hj => hij.resolve_right fun hmem => ?_))
  simp only [List.mem_cons, List.not_mem_nil, Prod.mk.injEq, or_false] at hmem
  rcases hmem with ⟨rfl, rfl⟩ | ⟨rfl, rfl⟩ | ⟨rfl, rfl⟩ | ⟨rfl, rfl⟩ | ⟨rfl, rfl⟩ | ⟨rfl, rfl⟩ <;>
    simp only [selectedBy_pressInc, selectedBy_rejectInc, selectedBy_pressDec, selectedBy_rejectDec] at hi hj <;>
    grind

/-- `IDLE` stands beside `ADVANCE` alone, and `ADVANCE` never stands alone (R61, R70). -/
theorem select_idle_exactly_alone (hrst : EventWord.rst ev = false) :
    (Instr.idle ∈ select ev → select ev = [.advance, .idle]) ∧ select ev ≠ [.advance] := by
  have hnone := idle_mem_select_iff hrst
  refine ⟨fun hidle => ?_, fun halone => ?_⟩
  · have hevents := hnone.1 hidle
    simp only [mem_select, Bool.not_eq_true] at hidle hevents
    simp [select, performOrder, hidle, hevents, selectedBy_reset, selectedBy_advance, hrst]
  · simp [halone] at hnone

/-- Every bundle of a word that is not reserved is well formed (R61, R62). -/
theorem wf_select (h : ¬ Reserved ev) : Bundle.wf (select ev) = true := by
  cases hrst : EventWord.rst ev
  case true =>
    rw [select_of_rst hrst]
    decide
  case false =>
    have hhead : (select ev).head? = some .advance := by
      simp [select, performOrder, selectedBy_reset, selectedBy_advance, hrst]
    have hnoReset : Instr.reset ∉ select ev := by simp [mem_select, selectedBy_reset, hrst]
    refine (wf_iff _).2 ⟨fun hreset => absurd hreset hnoReset, .inr hhead, inOrder_select h,
      select_idle_exactly_alone hrst, ?_⟩
    rw [Reserved, exists_channel_iff] at h
    simp only [mem_select, selectedBy_edgeInc, selectedBy_edgeDec, selectedBy_pressInc, selectedBy_rejectInc,
      selectedBy_pressDec, selectedBy_rejectDec]
    grind

/-- The levels of a word that is not reserved fit its bundle (R57, R61). -/
theorem fitsLevels_select (h : ¬ Reserved ev) :
    Bundle.fitsLevels (select ev) (EventWord.level ev .dec) (EventWord.level ev .inc) = true := by
  rw [Reserved, exists_channel_iff] at h
  simp only [fitsLevels_iff, mem_select, selectedBy_edgeInc, selectedBy_edgeDec, selectedBy_pressInc,
    selectedBy_rejectInc, selectedBy_pressDec, selectedBy_rejectDec]
  grind

/-- A word with `RST = 0` is the encoding of what it selects (R55, R61). -/
theorem encode_select (hrst : EventWord.rst ev = false) :
    encode (select ev) (EventWord.level ev .dec) (EventWord.level ev .inc) = ev := by
  have hcontains (i : Instr) : (select ev).contains i = i.selectedBy ev := by
    rw [List.contains_eq_mem, Bool.eq_iff_iff, decide_eq_true_iff, mem_select]
  conv_rhs => rw [← pack_eta ev]
  simp only [encode_eq_pack, hcontains, selectedBy_reset, selectedBy_edgeInc, selectedBy_edgeDec, selectedBy_silence,
    selectedBy_blink, selectedBy_pressInc, selectedBy_rejectInc, selectedBy_pressDec, selectedBy_rejectDec, hrst,
    Bool.not_false, Bool.true_and]
  cases EventWord.level ev .inc <;> cases EventWord.level ev .dec <;> simp

end select

/-- The input vector that a prepared state samples reads back the word's input bits (R56). -/
theorem inputOfEvent_bits (ev : EventWord) :
    InputVec.rst (inputOfEvent ev) = EventWord.rst ev ∧
      ∀ ch, InputVec.line (inputOfEvent ev) ch = EventWord.level ev ch := by
  have hbits : ∀ rst ld li : Bool,
      let v : InputVec := BitVec.ofBool rst ++ BitVec.ofBool ld ++ BitVec.ofBool li
      v.rst = rst ∧ v.line .inc = li ∧ v.line .dec = ld := by decide
  obtain ⟨hrst, hinc, hdec⟩ := hbits (EventWord.rst ev) (EventWord.level ev .dec) (EventWord.level ev .inc)
  exact ⟨hrst, forall_channel_iff.2 ⟨hinc, hdec⟩⟩

section prepare

variable (s : Registers) (ev : EventWord) (ch : Channel)

/-- A prepared channel is due in the coming step, or Idle (R57, R58). -/
theorem prepareChannel_channel_same :
    (s.prepareChannel ev ch).channel ch = if EventWord.serviced ev ch = true then ⟨true, false, 1#6⟩ else .idle := by
  unfold Registers.prepareChannel
  split <;> simp [Registers.channel, ChannelState.idle]

/-- The sample before the word's edge was high, and otherwise it was the word's level (R57). -/
theorem prepareChannel_prevN_same (h : EventWord.serviced ev ch = false) :
    (s.prepareChannel ev ch).prevN.get ch = (EventWord.edge ev ch || EventWord.level ev ch) := by
  simp [Registers.prepareChannel, h]

theorem prepareChannel_other {ch' : Channel} (h : ch' ≠ ch) :
    (s.prepareChannel ev ch).channel ch' = s.channel ch' ∧ (s.prepareChannel ev ch).prevN.get ch' = s.prevN.get ch' := by
  unfold Registers.prepareChannel
  split <;> simp [Registers.channel, PerChannel.get_set_other _ _ h]

theorem prepareFor_channel :
    (s.prepareFor ev).channel ch = if EventWord.serviced ev ch = true then ⟨true, false, 1#6⟩ else .idle := by
  cases ch
  case inc =>
    exact (prepareChannel_other _ ev .dec (by decide)).1.trans (prepareChannel_channel_same s ev .inc)
  case dec => exact prepareChannel_channel_same _ ev .dec

theorem prepareFor_prevN (h : EventWord.serviced ev ch = false) :
    (s.prepareFor ev).prevN.get ch = (EventWord.edge ev ch || EventWord.level ev ch) := by
  cases ch
  case inc =>
    exact (prepareChannel_other _ ev .dec (by decide)).2.trans (prepareChannel_prevN_same s ev .inc h)
  case dec => exact prepareChannel_prevN_same _ ev .dec h

theorem prepareFor_due : (s.prepareFor ev).due ch = EventWord.serviced ev ch := by
  have hchannel := prepareFor_channel s ev ch
  cases h : EventWord.serviced ev ch <;> rw [h] at hchannel <;>
    obtain ⟨hpending, -, hcount⟩ := ChannelState.mk.inj hchannel <;> rw [due_eq, hpending, hcount] <;> rfl

/-- A prepared channel sees an edge exactly where the word has one: a legal word's edge has neither a service nor a high
level beside it (R57, R62). -/
theorem prepareFor_edgeAccepted (hlegal : ¬ Reserved ev) :
    (s.prepareFor ev).edgeAccepted (inputOfEvent ev) ch = EventWord.edge ev ch := by
  have hchannel := prepareFor_channel s ev ch
  rw [Registers.edgeAccepted, Registers.fall, (inputOfEvent_bits ev).2]
  cases hserviced : EventWord.serviced ev ch
  case true =>
    have hnoEdge : EventWord.edge ev ch = false :=
      Bool.eq_false_iff.2 fun hedge => hlegal (.inr ⟨ch, hedge, .inl hserviced⟩)
    rw [hserviced] at hchannel
    obtain ⟨-, hirq, -⟩ := ChannelState.mk.inj hchannel
    simp [hirq, hnoEdge]
  case false =>
    have hlow (hedge : EventWord.edge ev ch = true) : EventWord.level ev ch = false :=
      Bool.eq_false_iff.2 fun hlevel => hlegal (.inr ⟨ch, hedge, .inr hlevel⟩)
    rw [hserviced] at hchannel
    obtain ⟨hpending, hirq, -⟩ := ChannelState.mk.inj hchannel
    rw [prepareFor_prevN s ev ch hserviced, hirq, hpending]
    cases hedge : EventWord.edge ev ch
    case true => simp [hlow hedge]
    case false => simp

theorem prepareFor_silenceFires : (s.prepareFor ev).silenceFires = EventWord.silenceFires ev := by
  cases h : EventWord.silenceFires ev <;> simp [Registers.silenceFires, Registers.silAt, Registers.prepareFor, h]

theorem prepareFor_blinkFires : (s.prepareFor ev).blinkFires = EventWord.blinkFires ev := by
  cases h : EventWord.blinkFires ev
  case true => simp [Registers.blinkFires, Registers.prepareFor, h]
  case false =>
    simp only [Registers.blinkFires, Registers.prepareFor, h, Bool.false_eq_true, if_false]
    split <;> simp_all [Config.tBlink]

/-- A prepared state forms the word it was prepared for, bit by bit (R55 to R60). -/
theorem prepareFor_form (hlegal : ¬ Reserved ev) : (s.prepareFor ev).form (inputOfEvent ev) = ev := by
  have hdec : (s.prepareFor ev).confirmationServiced .dec = EventWord.serviced ev .dec := by
    have hnotBoth : EventWord.serviced ev .inc = true → EventWord.serviced ev .dec = false := fun hinc =>
      Bool.eq_false_iff.2 fun hdec => hlegal (.inl ⟨hinc, hdec⟩)
    rw [Registers.confirmationServiced, prepareFor_due, prepareFor_due]
    cases h : EventWord.serviced ev .inc <;> simp [hnotBoth, h]
  have hinc : (s.prepareFor ev).confirmationServiced .inc = EventWord.serviced ev .inc := prepareFor_due s ev .inc
  obtain ⟨hrst, hline⟩ := inputOfEvent_bits ev
  rw [Registers.form, hrst, hline, hline, hinc, hdec, prepareFor_edgeAccepted s ev _ hlegal,
    prepareFor_edgeAccepted s ev _ hlegal, prepareFor_silenceFires, prepareFor_blinkFires, pack_eta]

end prepare

end Sys2Proof.Machine
end

section
/-! CERTIFICATE. The statements of `30_encoding.md` on the decoder, the encoder and the formed words. -/

namespace Sys2Proof.Machine

/-- Settles O14: a reset bundle is `RESET` alone; of any other the encoded word's bits say which operations it holds, so the
word selects from the order of R67 what the bundle, which stands in that order, holds. -/
theorem decodeOfEncodeIsTheBundle : Obligations.DecodeOfEncodeIsTheBundle := by
  intro b ld li hwf hfits
  obtain ⟨hresetAlone, -, horder, -⟩ := (wf_iff b).1 hwf
  by_cases hreset : Instr.reset ∈ b
  · rw [hresetAlone hreset]
    clear hfits
    revert ld li
    decide
  · obtain ⟨hdec, hinc, hlegal, hselected⟩ := encode_of_selectable (selectable_of_wf hwf hfits hreset)
    have hselect : select (encode b ld li) = b := by
      rw [select, funext hselected, ← eq_filter_performOrder horder]
    exact ⟨decode_ok.2 ⟨(reservedPattern_eq_none_iff _).2 hlegal, hselect⟩, hdec, hinc⟩

/-- Settles O18: an accepted edge excludes a high line and a service of its own channel, and one service the other. -/
theorem formationNeverMakesAReservedWord : Obligations.FormationNeverMakesAReservedWord := reservedPattern_form

/-- Settles O23: the prepared state forms each bit of the word; a reserved word alone asks two bits of one channel that no
state forms together. -/
theorem preparedStateFormsTheWord : Obligations.PreparedStateFormsTheWord := fun s _ w _ hpattern =>
  prepareFor_form s.toRegisters (BitVec.ofNat 9 w) ((reservedPattern_eq_none_iff _).1 hpattern)

/-- Settles O13: the decoder's test finds a pattern in exactly the reserved words, whatever their `RST`. -/
theorem exactlyTheReservedWordsAreRefused : Obligations.ExactlyTheReservedWordsAreRefused := by
  refine fun ev => ⟨fun hreserved => ?_, fun hlegal => decode_ok.2 ⟨(reservedPattern_eq_none_iff ev).2 hlegal, rfl⟩⟩
  cases hpattern : reservedPattern ev with
  | none => exact absurd hreserved ((reservedPattern_eq_none_iff ev).1 hpattern)
  | some e =>
    refine ⟨e, fun s => ?_⟩
    rw [runEvent, decode_error.2 hpattern]

/-- Settles O15: what a word that is not reserved selects is well formed, fits its levels, and encodes it. -/
theorem encodeOfDecodeIsTheWord : Obligations.EncodeOfDecodeIsTheWord := by
  intro ev b hdecode
  obtain ⟨hpattern, rfl⟩ := decode_ok.1 hdecode
  have hlegal := (reservedPattern_eq_none_iff ev).1 hpattern
  exact ⟨wf_select hlegal, fitsLevels_select hlegal, encode_select⟩

/-- Settles O16: the decoder runs on each of the words. -/
theorem sampleEventWordsDecode : Obligations.SampleEventWordsDecode := by
  unfold Obligations.SampleEventWordsDecode
  decide

end Sys2Proof.Machine
end

section
/-! SUPPORT. `10_state.md` section 9: the invariants of R30 after every step, the distance of a channel from its next press,
and the spacing of the silence timers that follows from it (R84, R103). -/

namespace Sys2Proof.Machine

/-- The state after a step, which every state has; `step_eq_succ` ties it to `step`. -/
def State.succ (s : State) : State := (s.onRegisters fun r => r.next s.input).consumeInput

theorem step_eq_succ (s : State) : step s = .next s.succ := step_eq s

theorem eq_succ_of_step {s t : State} (h : step s = .next t) : t = s.succ := by
  cases (step_eq_succ s).symm.trans h
  rfl

theorem succ_toRegisters (s : State) : s.succ.toRegisters = s.toRegisters.next s.input := rfl

/-- INV2 and INV3 of one channel (R30). -/
structure ChannelState.Legal (c : ChannelState) : Prop where
  irqEn : c.irqEn = !c.isDebouncing
  dbCnt_le : c.dbCnt.toNat ≤ 50
  dbCnt_idle : c.isDebouncing = false → c.dbCnt = 0

theorem legal_idle : ChannelState.idle.Legal := ⟨rfl, by decide, fun _ => rfl⟩

theorem legal_armed : ChannelState.armed.Legal := ⟨rfl, by decide, fun h => absurd h (by decide)⟩

/-- Counting down keeps a counter within its bounds, and an Idle channel's at 0 (R16, R93). -/
theorem ChannelState.Legal.tick {c : ChannelState} (h : c.Legal) : c.tick.Legal := by
  refine ⟨h.irqEn, ?_, fun hidle => ?_⟩
  · have hcount := countDownDb_toNat c.isDebouncing c.dbCnt
    have hbound := h.dbCnt_le
    simp only [ChannelState.tick]
    split at hcount <;> omega
  · have hpending : c.isDebouncing = false := hidle
    simp [ChannelState.tick, countDownDb, hpending, h.dbCnt_idle hpending]

/-- The invariants of R30, with those of the channels taken channel by channel. -/
theorem inv_iff (r : Registers) :
    r.Inv ↔ (∀ ch, (r.channel ch).Legal) ∧ r.blinkCountLegal ∧ r.toneNeedsPwm ∧ r.renderMeansStart :=
  ⟨fun ⟨hirq, hcount, hrest⟩ => ⟨fun ch => ⟨hirq ch, (hcount ch).1, (hcount ch).2⟩, hrest⟩,
    fun ⟨hlegal, hrest⟩ => ⟨fun ch => (hlegal ch).irqEn, fun ch => ⟨(hlegal ch).dbCnt_le, (hlegal ch).dbCnt_idle⟩, hrest⟩⟩

section step

variable {s : State}

/-- A step leaves a channel Idle, armed, or one time unit further (R72). -/
theorem channel_next_legal (h : ∀ ch, (s.channel ch).Legal) (ch : Channel) :
    ((s.toRegisters.next s.input).channel ch).Legal := by
  rw [channel_next_eq]
  split_ifs
  · exact legal_idle
  · exact legal_armed
  · exact legal_idle
  · exact (h ch).tick

theorem next_blinkCountLegal (h : s.blinkCountLegal) : (s.toRegisters.next s.input).blinkCountLegal := by
  rw [Registers.blinkCountLegal] at h ⊢
  rw [next_blinkCnt]
  split_ifs
  · decide
  · rw [countDownBlinkCount_toNat]
    split_ifs <;> omega

/-- A press starts the tone and enables the peripheral together (R99); nothing but a reset disables it (R23). -/
theorem next_toneNeedsPwm (h : s.toneNeedsPwm) : (s.toRegisters.next s.input).toneNeedsPwm := by
  rw [Registers.toneNeedsPwm] at h ⊢
  rw [next_toneOn, next_pwmEn]
  grind

/-- A confirmed press alone sets the two strobes, and with them all that INV7 names (R88). -/
theorem next_renderMeansStart (s : State) : (s.toRegisters.next s.input).renderMeansStart := by
  have hrender : (s.toRegisters.next s.input).renderStb = s.anyPress := Registers.next_renderStb ..
  refine ⟨hrender.trans (Registers.next_toneStartStb ..).symm, fun h => ?_⟩
  rw [hrender] at h
  have hrst : s.rst = false := by simpa [h] using not_rst_and_anyPress s
  simp [next_toneOn, next_pwmEn, next_silAt_last, h, hrst]

theorem next_inv (h : s.Inv) : (s.toRegisters.next s.input).Inv := by
  obtain ⟨hlegal, hblink, htone, -⟩ := (inv_iff _).1 h
  exact (inv_iff _).2
    ⟨channel_next_legal hlegal, next_blinkCountLegal hblink, next_toneNeedsPwm htone, next_renderMeansStart s⟩

variable {ch : Channel} {m : Nat}

theorem due_of_confirmationServiced (h : s.confirmationServiced ch = true) : s.due ch = true := by
  cases ch
  · exact h
  · exact (Bool.and_eq_true_iff.1 h).1

/-- A channel with a step to go before its next press is not serviced. -/
theorem confirmationServiced_of_farFromPress (hm : 1 ≤ m) (h : s.farFromPress ch m) :
    s.confirmationServiced ch = false := by
  refine Bool.eq_false_iff.2 fun hserviced => ?_
  obtain ⟨hpending, hcount⟩ := (due_iff _ ch).1 (due_of_confirmationServiced hserviced)
  obtain ⟨-, hfar, -⟩ := h
  have hleft := hfar hpending
  omega

/-- `farFromPress` with the channel's debounce fields taken together. -/
theorem farFromPress_iff (r : Registers) :
    r.farFromPress ch m ↔
      m ≤ 51 ∧ ((r.channel ch).isDebouncing = true → m ≤ (r.channel ch).dbCnt.toNat - 1) ∧
        ((r.channel ch).isDebouncing = false → r.prevN.get ch = true → m ≤ 50) :=
  Iff.rfl

/-- A step takes a channel at most one step nearer to its next press: an edge, which needs a high sample before it, starts
the longest way there (R84). -/
theorem next_farFromPress (h : s.farFromPress ch m) : (s.toRegisters.next s.input).farFromPress ch (m - 1) := by
  obtain ⟨hbound, hpendingFar, hidleFar⟩ := h
  rw [farFromPress_iff, channel_next_eq]
  split_ifs with hrst hedge hserviced
  · exact ⟨by omega, fun h => absurd h (by decide), fun _ _ => by omega⟩
  · rw [edgeAccepted_eq, fall_eq] at hedge
    simp only [Bool.and_eq_true, Bool.not_eq_true'] at hedge
    obtain ⟨⟨⟨hprev, -⟩, -⟩, hidle⟩ := hedge
    have hlongest : m ≤ 50 := hidleFar hidle hprev
    exact ⟨by omega, fun _ => Nat.sub_le_sub_right hlongest 1, fun h => absurd h (by decide)⟩
  · obtain rfl : m = 0 := by
      by_contra hm
      have hnone := confirmationServiced_of_farFromPress (Nat.pos_of_ne_zero hm) ⟨hbound, hpendingFar, hidleFar⟩
      simp [hserviced] at hnone
    exact ⟨Nat.zero_le _, fun _ => Nat.zero_le _, fun _ _ => Nat.zero_le _⟩
  · refine ⟨by omega, fun hpending => ?_, fun _ _ => by omega⟩
    have hcount : (s.channel ch).tick.dbCnt.toNat = (s.dbCnt.get ch).toNat - 1 :=
      (countDownDb_toNat (s.isDebouncing.get ch) (s.dbCnt.get ch)).trans (if_pos hpending)
    have hleft := hpendingFar hpending
    omega

/-- A channel is Idle and its line was last sampled low: no edge can fall and nothing is due (R57, R58). -/
def Registers.restsLow (r : Registers) (ch : Channel) : Prop :=
  r.isDebouncing.get ch = false ∧ r.prevN.get ch = false

/-- A confirmed press leaves its channel resting on the low line that made it a press (R80, R81). -/
theorem next_restsLow_of_pressConfirmed (h : s.pressConfirmed ch = true) :
    (s.toRegisters.next s.input).restsLow ch := by
  have hchannel : (s.toRegisters.next s.input).channel ch = .idle := by simp [channel_next_eq_selects, h]
  rw [pressConfirmed_eq, Bool.and_eq_true, Bool.not_eq_true'] at h
  refine ⟨congrArg ChannelState.isDebouncing hchannel, ?_⟩
  rw [Registers.next_prevN]
  cases ch <;> exact h.2

/-- A channel that rests on a low line is as far from its next press as can be (R84). -/
theorem farFromPress_of_restsLow {r : Registers} (h : r.restsLow ch) : r.farFromPress ch 51 := by
  obtain ⟨hidle, hprev⟩ := h
  simp [Registers.farFromPress, hidle, hprev]

/-- Whom the timers of the state after a step are laid to, given whom those of the state before it are: each moves down one
place, and a press of the step arms a new one for its channel at place 200 (R69, R103). -/
def armedByNext (s : State) (armedBy : Channel → Nat → Prop) (ch : Channel) (k : Nat) : Prop :=
  s.rst = false ∧ 1 ≤ k ∧ (armedBy ch (k + 1) ∨ k = 200 ∧ s.pressConfirmed ch = true)

/-- The spacing survives every step: a press finds no timer of its channel above place 149, for a channel with such a timer
is still on its way to its next press (R84). -/
theorem next_silencesSpaced (h : s.silencesSpaced) : (s.toRegisters.next s.input).silencesSpaced := by
  obtain ⟨armedBy, hcover, hrange, hapart, hfar⟩ := h
  have hbelow {ch k} (hpress : s.pressConfirmed ch = true) (hk : armedBy ch k) : k ≤ 149 := by
    by_contra hlate
    have hnone := confirmationServiced_of_farFromPress (by omega) (hfar ch k hk)
    simp [(rst_and_serviced_of_pressConfirmed hpress).2] at hnone
  refine ⟨armedByNext s armedBy, ?cover, ?range, ?apart, ?far⟩
  case cover =>
    intro k hk hk' hbit
    by_cases hlast : k = 200
    · subst hlast
      rw [next_silAt_last, Bool.and_eq_true, Bool.not_eq_true', State.anyPress, Bool.or_eq_true] at hbit
      obtain ⟨hrst, hpress | hpress⟩ := hbit
      · exact .inl ⟨hrst, hk, .inr ⟨rfl, hpress⟩⟩
      · exact .inr ⟨hrst, hk, .inr ⟨rfl, hpress⟩⟩
    · rw [next_silAt_shift s k hk (by omega), Bool.and_eq_true, Bool.not_eq_true'] at hbit
      obtain ⟨hrst, hbit⟩ := hbit
      exact (hcover (k + 1) (by omega) (by omega) hbit).imp (⟨hrst, hk, .inl ·⟩) (⟨hrst, hk, .inl ·⟩)
  case range =>
    rintro ch k ⟨-, hk, harmed | ⟨rfl, -⟩⟩
    · have hplace := hrange ch (k + 1) harmed
      omega
    · omega
  case apart =>
    rintro ch k l ⟨-, hk, harmed | ⟨rfl, -⟩⟩ ⟨-, hl, harmed' | ⟨rfl, hpress⟩⟩ hkl
    · have hspaced := hapart ch (k + 1) (l + 1) harmed harmed' (by omega)
      omega
    · have hfree := hbelow hpress harmed
      omega
    · have hplace := hrange ch (l + 1) harmed'
      omega
    · omega
  case far =>
    rintro ch k ⟨-, hk, harmed | ⟨rfl, hpress⟩⟩
    · have hnext := next_farFromPress (hfar ch (k + 1) harmed)
      rwa [show k + 1 - 149 - 1 = k - 149 by omega] at hnext
    · exact farFromPress_of_restsLow (next_restsLow_of_pressConfirmed hpress)

end step

/-- A reset step leaves the invariants and no timer (R31). -/
theorem ofReset_inv (v : InputVec) : (Registers.ofReset v).Inv := by
  refine (inv_iff _).2 ⟨fun ch => ?_, ?_, ?_, ?_⟩
  · cases ch <;> exact legal_idle
  · rw [Registers.blinkCountLegal, Registers.ofReset_blinkCnt]
    decide
  · simp [Registers.toneNeedsPwm]
  · simp [Registers.renderMeansStart]

theorem ofReset_silencesSpaced (v : InputVec) : (Registers.ofReset v).silencesSpaced :=
  ⟨fun _ _ => False, fun k _ _ hbit => by simp [Registers.silAt] at hbit, fun _ _ h => h.elim, fun _ _ _ h => h.elim,
    fun _ _ h => h.elim⟩

/-- What a reset step establishes and every step keeps hfrees of every reachable state (R32). -/
theorem reachable_induction {P : Registers → Prop} (reset : ∀ v, P (.ofReset v))
    (step : ∀ s : State, P s.toRegisters → P (s.toRegisters.next s.input)) {r : Registers} (h : Reachable r) : P r := by
  induction h with
  | reset hrst hstep =>
    rw [eq_succ_of_step hstep, succ_toRegisters, next_of_rst _ hrst]
    exact reset _
  | step _ hstep ih =>
    rw [eq_succ_of_step hstep, succ_toRegisters]
    exact step _ ih

/-- Numbers from 1 to 200 that stand 52 apart are at most four: they fall in different blocks of 52. -/
theorem card_le_four_of_apart (places : Finset Nat) (hrange : ∀ k ∈ places, 1 ≤ k ∧ k ≤ 200)
    (hapart : ∀ k ∈ places, ∀ l ∈ places, k < l → k + 52 ≤ l) : places.card ≤ 4 := by
  have hblock : Set.InjOn (fun k => (k - 1) / 52) places := by
    intro k hk l hl heq
    have hk1 := hrange k hk
    have hl1 := hrange l hl
    have hkl := hapart k hk l hl
    have hlk := hapart l hl k hk
    simp only at heq
    omega
  have hmaps : Set.MapsTo (fun k => (k - 1) / 52) places (Finset.range 4 : Finset Nat) := by
    intro k hk
    have hplace := hrange k hk
    simp only [Finset.coe_range, Set.mem_Iio]
    omega
  exact (Finset.card_le_card_of_injOn _ hmaps hblock).trans (Finset.card_range 4).le

open Classical in
/-- The places at which the timers laid to a channel stand. -/
noncomputable def placesOf (armedBy : Channel → Nat → Prop) (ch : Channel) : Finset Nat :=
  {k ∈ Finset.Icc 1 200 | armedBy ch k}

theorem mem_placesOf {armedBy : Channel → Nat → Prop} {ch : Channel} {k : Nat} :
    k ∈ placesOf armedBy ch ↔ (1 ≤ k ∧ k ≤ 200) ∧ armedBy ch k := by
  simp only [placesOf, Finset.mem_filter, Finset.mem_Icc]

/-- The pending timers counted by the places of the silence line, 1 to 200 (R18). -/
theorem pendingSilences_eq_card (r : Registers) :
    r.pendingSilences = ((Finset.range 200).filter fun k => r.silAt (k + 1) = true).card := by
  rw [Registers.pendingSilences, ← List.toFinset_card_of_nodup (List.nodup_range.filter _), List.toFinset_filter,
    List.toFinset_range]
  rfl

/-- Each channel has at most four timers pending, so the two have at most eight (R30 INV5). -/
theorem pendingSilences_le_eight {r : Registers} (h : r.silencesSpaced) : r.pendingSilences ≤ 8 := by
  obtain ⟨armedBy, hcover, hrange, hapart, -⟩ := h
  have hfour (ch) : (placesOf armedBy ch).card ≤ 4 := by
    refine card_le_four_of_apart _ (fun k hk => (mem_placesOf.1 hk).1) fun k hk l hl hkl => ?_
    exact hapart ch k l (mem_placesOf.1 hk).2 (mem_placesOf.1 hl).2 hkl
  have hcovered : Set.MapsTo (· + 1) (((Finset.range 200).filter fun k => r.silAt (k + 1) = true : Finset Nat) : Set Nat)
      (placesOf armedBy .inc ∪ placesOf armedBy .dec : Finset Nat) := by
    intro k hk
    obtain ⟨hk, hbit⟩ := Finset.mem_filter.1 hk
    have hplace : 1 ≤ k + 1 ∧ k + 1 ≤ 200 := ⟨Nat.le_add_left .., Finset.mem_range.1 hk⟩
    exact Finset.mem_union.2 ((hcover (k + 1) hplace.1 hplace.2 hbit).imp (mem_placesOf.2 ⟨hplace, ·⟩)
      (mem_placesOf.2 ⟨hplace, ·⟩))
  calc r.pendingSilences
      = ((Finset.range 200).filter fun k => r.silAt (k + 1) = true).card := pendingSilences_eq_card r
    _ ≤ (placesOf armedBy .inc ∪ placesOf armedBy .dec).card :=
        Finset.card_le_card_of_injOn _ hcovered (add_left_injective 1).injOn
    _ ≤ (placesOf armedBy .inc).card + (placesOf armedBy .dec).card := Finset.card_union_le ..
    _ ≤ 4 + 4 := Nat.add_le_add (hfour .inc) (hfour .dec)

end Sys2Proof.Machine
end

section
/-! CERTIFICATE. The statements of `10_state.md` section 9 on the invariants. -/

namespace Sys2Proof.Machine

/-- Settles O26: the channels' invariants go by the channel's transitions, the others by the laws of their fields. -/
theorem everyStepKeepsTheInvariants : Obligations.EveryStepKeepsTheInvariants := by
  intro s t hinv hstep
  rw [eq_succ_of_step hstep]
  exact next_inv hinv

/-- Settles O57: the timers move down together, and a press arms a new one only when its channel's last is at least 52
places ahead of it. -/
theorem everyStepKeepsTheSilencesSpaced : Obligations.EveryStepKeepsTheSilencesSpaced := by
  rintro s t ⟨hinv, hspaced⟩ hstep
  rw [eq_succ_of_step hstep]
  exact ⟨next_inv hinv, next_silencesSpaced hspaced⟩

/-- Settles O58: 200 places hfree four timers of each channel, 52 apart. -/
theorem spacedSilencesAreAtMostEight : Obligations.SpacedSilencesAreAtMostEight := fun _ => pendingSilences_le_eight

/-- Settles O27: the invariants and the spacing hfree after every reset step and are kept by every step. -/
theorem atMostEightSilenceTimersArePending : Obligations.AtMostEightSilenceTimersArePending := by
  intro r hreachable
  have hkept : r.Inv ∧ r.silencesSpaced :=
    reachable_induction (P := fun r => r.Inv ∧ r.silencesSpaced) (fun v => ⟨ofReset_inv v, ofReset_silencesSpaced v⟩)
      (fun _ ⟨hinv, hspaced⟩ => ⟨next_inv hinv, next_silencesSpaced hspaced⟩) hreachable
  exact ⟨hkept.1, pendingSilences_le_eight hkept.2⟩

/-- Settles O25: the thirteen fields of `State.reset` are those of a reset step. -/
theorem resetStateMeetsTheInvariants : Obligations.ResetStateMeetsTheInvariants := by
  rw [Obligations.ResetStateMeetsTheInvariants, reset_toRegisters]
  exact ofReset_inv _

/-- Settles O56, as O25: no timer is pending. -/
theorem resetStateHasItsSilencesSpaced : Obligations.ResetStateHasItsSilencesSpaced := by
  rw [Obligations.ResetStateHasItsSilencesSpaced, reset_toRegisters]
  exact ofReset_silencesSpaced _

/-- Settles O55: a reset step that samples both lines released, from `State.reset` itself, produces them. -/
theorem theResetStateIsReachable : Obligations.TheResetStateIsReachable :=
  Reachable.reset (s := { State.reset with stimulus := [0b111#3] }) (t := { State.reset with ticks := 1 }) rfl rfl

end Sys2Proof.Machine
end

section
/-! SUPPORT. `40_step.md` section 1: the pseudocode of R66 as the fold over the order of R67, and the environment's hand-over
of one input vector (log 1); what a channel's next fields depend on (R72); the digit of repeated presses (R86, R87); the
pixel sequence (R96). -/

namespace Sys2Proof.Machine

/-- One line of the pseudocode performs its operation on the registers where its condition holds. -/
theorem performIf_next (c : Bool) (i : Instr) (w : State) :
    performIf c i (.next w) = .next (w.onRegisters fun r => if c = true then r.perform w.input i else r) := by
  cases c
  · rfl
  · exact exec_eq i w

/-- Lines of the pseudocode one after the other are one fold over the registers. -/
theorem foldl_performIf (c : Instr → Bool) (l : List Instr) (w : State) :
    l.foldl (fun o i => performIf (c i) i o) (.next w) =
      .next (w.onRegisters fun r => l.foldl (fun r i => if c i = true then r.perform w.input i else r) r) := by
  induction l generalizing w with
  | nil => rfl
  | cons i l ih =>
    rw [List.foldl_cons, performIf_next, ih]
    rfl

/-- A reset step is `RESET` alone (R61, R124). -/
theorem step_of_rst {s : State} (hrst : s.rst = true) : step s = finishStep (exec .reset s) := by
  rw [step_eq, exec_reset]
  simp [finishStep, State.onRegisters, next_of_rst s.toRegisters hrst]

/-- Any other step is `ADVANCE` and then the lines of the pseudocode in the order of R67; `IDLE` changes nothing. -/
theorem step_of_not_rst {s : State} (hrst : s.rst = false) :
    step s = finishStep
      ([.edgeInc, .edgeDec, .silence, .blink, .pressInc, .rejectInc, .pressDec, .rejectDec].foldl
        (fun o i => performIf (s.selects i) i o) (exec .advance s)) := by
  have hidle (r : Registers) : (if s.selects .idle = true then r.perform s.input .idle else r) = r := ite_self r
  rw [exec_eq, foldl_performIf, step_eq]
  simp only [finishStep, State.onRegisters, next_eq_foldl_selects, performOrder, List.foldl_cons, List.foldl_nil,
    selects_reset, selects_advance, hrst, hidle]
  rfl

/-- The coming vectors move up one place in every step (log 1, log 2). -/
theorem next_inputAt (e : Environment) (j : Nat) : e.next.inputAt j = e.inputAt (j + 1) := by
  simp [Environment.inputAt, Nat.add_right_comm, Nat.add_assoc]

theorem succ_inputAt (s : State) (j : Nat) : s.succ.inputAt j = s.inputAt (j + 1) := next_inputAt s.toEnvironment j

/-- A channel's fields after a step depend on its own fields before it, on its line and on `rst`, and for Decrement on
whether the arbiter holds it over (R58, R72). -/
theorem channel_next_congr {s s' : State} {ch : Channel} (hrst : s.rst = s'.rst) (hline : s.line ch = s'.line ch)
    (hchannel : s.channel ch = s'.channel ch) (hprev : s.prevN.get ch = s'.prevN.get ch)
    (harbiter : ch = .dec → s.due .inc = s'.due .inc) :
    (s.toRegisters.next s.input).channel ch = (s'.toRegisters.next s'.input).channel ch := by
  obtain ⟨hpending, hirq, hcount⟩ := ChannelState.mk.inj hchannel
  have hedge : s.edgeAccepted ch = s'.edgeAccepted ch := by
    rw [edgeAccepted_eq, edgeAccepted_eq, fall_eq, fall_eq, hprev, hline, hirq, hpending]
  have hdue : s.due ch = s'.due ch := by rw [due_eq, due_eq, hpending, hcount]
  have hserviced : s.confirmationServiced ch = s'.confirmationServiced ch := by
    cases ch
    case inc => exact hdue
    case dec => simp only [Registers.confirmationServiced, hdue, harbiter rfl]
  rw [channel_next_eq, channel_next_eq, hrst, hedge, hserviced, hchannel]

/-- An operation that moves the digit by `m` moves it by `k` times `m` when performed `k` times, modulo 10. -/
theorem foldl_replicate_digit {v : InputVec} {i : Instr} {m : Nat}
    (hmove : ∀ r : Registers, (r.perform v i).digit.val = (r.digit.val + m) % 10) (k : Nat) (r : Registers) :
    ((List.replicate k i).foldl (Registers.perform v) r).digit.val = (r.digit.val + m * k) % 10 := by
  induction k generalizing r with
  | zero => exact (Nat.mod_eq_of_lt r.digit.isLt).symm
  | succ k ih =>
    rw [List.replicate_succ, List.foldl_cons, ih, hmove, Nat.mod_add_mod, Nat.mul_succ]
    congr 1
    omega

theorem perform_pressInc_digit (v : InputVec) (r : Registers) :
    (r.perform v .pressInc).digit.val = (r.digit.val + 1) % 10 := incDigit_val r.digit

theorem perform_pressDec_digit (v : InputVec) (r : Registers) :
    (r.perform v .pressDec).digit.val = (r.digit.val + 9) % 10 := decDigit_val r.digit

/-- The two transitions are inverse to each other (R86, R87). -/
theorem decDigit_incDigit (d : Digit) : decDigit (incDigit d) = d := by
  revert d
  decide

theorem incDigit_decDigit (d : Digit) : incDigit (decDigit d) = d := by
  revert d
  decide

theorem pixelSeq_getElem? (d : Digit) {p : Nat} (hp : p < 25) :
    (pixelSeq d)[p]? = some (color ((tblRead Config.glyph d).getLsbD p)) := by
  simp [pixelSeq, hp]

/-- White is not black (R38). -/
theorem color_injective : Function.Injective color := by
  unfold Function.Injective
  decide

/-- No two digits share a glyph (R8). -/
theorem glyph_injective : Function.Injective Config.glyph := by
  intro d d' h
  have hword : BitVec.ofNat 25 d.val = BitVec.ofNat 25 d'.val := Config.glyphPerm.injective h
  have hval := congrArg BitVec.toNat hword
  simp only [BitVec.toNat_ofNat] at hval
  exact Fin.ext (by omega)

/-- The pixels of a sequence give back the glyph's cells, and the glyph its digit (R8, R96). -/
theorem pixelSeq_injective : Function.Injective pixelSeq := by
  intro d d' h
  refine glyph_injective (BitVec.eq_of_getLsbD_eq fun p hp => color_injective (Option.some.inj ?_))
  exact (pixelSeq_getElem? d hp).symm.trans (h ▸ pixelSeq_getElem? d' hp)

end Sys2Proof.Machine
end

section
/-! CERTIFICATE. The statements of `40_step.md` and `60_exceptions.md` on the step as a whole. -/

namespace Sys2Proof.Machine

/-- Settles O20: each line's condition is its row's bits, and the lines stand in the order of R67. -/
theorem stepPerformsTheSelectedOperationsInOrder : Obligations.StepPerformsTheSelectedOperationsInOrder := by
  intro s
  have hrstBit : s.form.getLsbD 8 = s.rst := form_rst s
  rw [hrstBit]
  cases hrst : s.rst
  case true => exact step_of_rst hrst
  case false =>
    rw [step_of_not_rst hrst]
    simp only [List.foldl_cons, List.foldl_nil, State.selects, selectedBy_edgeInc, selectedBy_edgeDec, selectedBy_silence,
      selectedBy_blink, selectedBy_pressInc, selectedBy_rejectInc, selectedBy_pressDec, selectedBy_rejectDec, form_rst,
      hrst, Bool.not_false, Bool.true_and, Bool.false_eq_true, if_false]
    rfl

/-- Settles O21: formation makes no reserved word, and no operation stops. -/
theorem everyStepAnswersANextState : Obligations.EveryStepAnswersANextState := fun s => ⟨_, step_eq_succ s⟩

/-- Settles O22: the vector at the head of the list is dropped, or the number of the free one is one higher. -/
theorem everyStepReadsTheNextInputVector : Obligations.EveryStepReadsTheNextInputVector := fun s =>
  ⟨_, step_eq_succ s, succ_inputAt s⟩

/-- Settles O19: the step decodes the word it forms. -/
theorem stepRunsTheDecodedBundle : Obligations.StepRunsTheDecodedBundle := by
  intro s b hdecode
  rw [step, stepOnce, runEvent, hdecode]
  rfl

/-- Settles O54: the next registers are `Registers.next` of registers and sampled vector. -/
theorem theNextRegistersAreAFunctionOfRegistersAndInput : Obligations.TheNextRegistersAreAFunctionOfRegistersAndInput := by
  intro s s' hregs hinput
  refine ⟨_, _, step_eq_succ s, step_eq_succ s', ?_, rfl⟩
  rw [succ_toRegisters, succ_toRegisters, hregs, hinput]

/-- Settles O24: a reset step is `RESET` alone, and uses up its vector. -/
theorem afterAResetStepTheStateIsTheResetState : Obligations.AfterAResetStepTheStateIsTheResetState := by
  intro s hrst
  rw [step_of_rst hrst]
  rfl

/-- Settles O36: under INV2 a serviced channel's interrupt was off and any other that is off stays off; the status output is
inverted by `BLINK` alone. -/
theorem interruptsAreReenabledExactlyByTheService : Obligations.InterruptsAreReenabledExactlyByTheService := by
  intro s ch hinv hrst
  refine ⟨_, step_eq_succ s, ?irq, ?led⟩
  case irq =>
    have hirq : s.irqEn.get ch = !s.isDebouncing.get ch := (((inv_iff _).1 hinv).1 ch).irqEn
    have hnext := congrArg ChannelState.irqEn (channel_next_eq s ch)
    have hserviced : s.servicedNow ch = s.confirmationServiced ch := form_serviced s ch
    change (!s.irqEn.get ch && ((s.toRegisters.next s.input).channel ch).irqEn) = _
    rw [hnext, hserviced, hrst]
    cases hedge : s.edgeAccepted ch
    case true => simp [ChannelState.armed, ((formation_exclusions s).1 ch hedge).2]
    case false =>
      cases hserv : s.confirmationServiced ch
      case true => simp [ChannelState.idle, hirq, ((due_iff _ _).1 (due_of_confirmationServiced hserv)).1]
      case false => simp [ChannelState.tick, Registers.channel]
  case led =>
    change (s.statusLed != (s.toRegisters.next s.input).statusLed) = _
    rw [next_statusLed, hrst]
    cases s.statusLed <;> simp

end Sys2Proof.Machine
end

section
/-! CERTIFICATE. The statements of `10_state.md` and `41_debounce.md` on the fields after a step, of `42_application.md` on the
digit, and of `43_render_tone.md`. -/

namespace Sys2Proof.Machine

/-- Settles O30: the counter is read off the channel's transitions. -/
theorem debounceCounterLoadsCountsAndStops : Obligations.DebounceCounterLoadsCountsAndStops := by
  intro s ch
  have htick : (s.channel ch).tick.dbCnt.toNat = _ := countDownDb_toNat (s.isDebouncing.get ch) (s.dbCnt.get ch)
  refine ⟨_, step_eq_succ s, (congrArg (fun c => c.dbCnt.toNat) (channel_next_eq s ch)).trans ?_⟩
  simp only [apply_ite ChannelState.dbCnt, apply_ite BitVec.toNat, htick]
  rfl

/-- Settles O31: `BLINK` is selected where the counter is 1, and reloads it and inverts the output. -/
theorem blinkCounterCountsDownAndReloads : Obligations.BlinkCounterCountsDownAndReloads := by
  intro s
  have hfires := blinkFires_iff s.toRegisters
  refine ⟨_, step_eq_succ s, ?count, ?led⟩
  case count =>
    rw [succ_toRegisters, next_blinkCnt, selects_blink_eq, apply_ite BitVec.toNat, countDownBlinkCount_toNat]
    grind
  case led =>
    rw [succ_toRegisters, next_statusLed, selects_blink_eq]
    grind

/-- Settles O32: the two laws of the tone's flags, by cases. -/
theorem toneFlagsFollowStartStopAndReset : Obligations.ToneFlagsFollowStartStopAndReset := by
  intro s
  refine ⟨_, step_eq_succ s, (next_toneOn s).trans ?_, (next_pwmEn s).trans ?_⟩
  · rw [selects_silence_eq, Registers.silenceFires]
    grind
  · rw [Bool.or_comm s.pwmEn]

/-- Settles O40: the channel's transitions ask nothing but what the two states agree on. -/
theorem channelsDoNotDisturbEachOther : Obligations.ChannelsDoNotDisturbEachOther := by
  intro ch s s' hrst hline hpending hirq hcount hprev harbiter
  have hchannel : s.channel ch = s'.channel ch := by simp only [Registers.channel, hpending, hirq, hcount]
  obtain ⟨hpending', hirq', hcount'⟩ :=
    ChannelState.mk.inj (channel_next_congr hrst hline hchannel hprev harbiter)
  refine ⟨_, _, step_eq_succ s, step_eq_succ s', hpending', hirq', hcount', ?_⟩
  rw [succ_toRegisters, succ_toRegisters, Registers.next_prevN, Registers.next_prevN]
  cases ch <;> exact hline

/-- Settles O41: `SILENCE` acts before the press, so the stop's strobe stays set and the start's flag wins. -/
theorem stopThenStartLeavesTheToneOn : Obligations.StopThenStartLeavesTheToneOn := by
  intro s hfires hpress
  have hrst : s.rst = false := by simpa [hpress] using not_rst_and_anyPress s
  have hselected : s.selects .silence = true := by simp [selects_silence_eq, hrst, Registers.silenceFires, hfires]
  refine ⟨_, step_eq_succ s, (next_toneOn s).trans ?_, (Registers.next_toneStopStb ..).trans hselected,
    (Registers.next_toneStartStb ..).trans hpress, (Registers.next_renderStb ..).trans hpress,
    (next_silAt_last s).trans ?_⟩
  · simp [hrst, hpress]
  · simp [hrst, hpress]

/-- Settles O42: `k` presses move the digit `k` or `9 k` places; ten move it 10 or 90, and one of each 10. -/
theorem digitTransitionsObeyTheCycleLaws : Obligations.DigitTransitionsObeyTheCycleLaws := by
  have hinc (s : State) (k : Nat) := foldl_replicate_digit (perform_pressInc_digit s.input) k s.toRegisters
  have hdec (s : State) (k : Nat) := foldl_replicate_digit (perform_pressDec_digit s.input) k s.toRegisters
  refine ⟨fun k s => ?_, fun s => ?_, fun s => ?_⟩
  · exact ⟨_, _, runBundle_eq .., (hinc s k).trans (by rw [Nat.one_mul]), runBundle_eq .., hdec s k⟩
  · have hlt : s.digit.val < 10 := s.digit.isLt
    exact ⟨_, _, runBundle_eq .., Fin.ext ((hinc s 10).trans (by omega)), runBundle_eq ..,
      Fin.ext ((hdec s 10).trans (by omega))⟩
  · exact ⟨_, _, runBundle_eq .., decDigit_incDigit s.digit, runBundle_eq .., incDigit_decDigit s.digit⟩

/-- Settles O44: word `p` is the colour of cell `p`, and cells, glyph and digit are read back from the colours. -/
theorem pixelSequenceIsTheGlyphAndTellsDigitsApart : Obligations.PixelSequenceIsTheGlyphAndTellsDigitsApart :=
  ⟨fun d => ⟨by simp [pixelSeq], fun _ hp => pixelSeq_getElem? d hp⟩, fun _ _ h => pixelSeq_injective h⟩

end Sys2Proof.Machine
end

section
/-! SUPPORT. Runs of several steps from a state: the state each reaches and the vectors it samples (R48, R66), and what holds
along a run of the silence line, of a pending channel, of a channel that rests on a low line, of the tone and of the blink
timer. -/

namespace Sys2Proof.Machine

/-- The state `n` steps ahead; `runSteps_eq_ahead` ties it to `runSteps`. -/
def State.ahead (s : State) (n : Nat) : State := State.succ^[n] s

section run

variable (s : State) (n : Nat)

theorem ahead_succ : s.ahead (n + 1) = (s.ahead n).succ := Function.iterate_succ_apply' ..

theorem ahead_succ_left : s.ahead (n + 1) = s.succ.ahead n := Function.iterate_succ_apply ..

theorem runSteps_eq_ahead : runSteps n s = .next (s.ahead n) := by
  induction n generalizing s with
  | zero => rfl
  | succ n ih => rw [runSteps_succ n (step_eq_succ s), ih, ahead_succ_left]

theorem eq_ahead_of_runSteps {s t : State} {n : Nat} (h : runSteps n s = .next t) : t = s.ahead n := by
  cases (runSteps_eq_ahead s n).symm.trans h
  rfl

/-- The state `n` steps ahead samples the vector that was `n` steps away (log 1). -/
theorem ahead_input : (s.ahead n).input = s.inputAt n := by
  induction n generalizing s with
  | zero => rfl
  | succ n ih => rw [ahead_succ_left, ih, succ_inputAt]

variable {s n}

theorem ahead_rst (h : s.noResetFor n) {j : Nat} (hj : j < n) : (s.ahead j).rst = false :=
  (congrArg InputVec.rst (ahead_input s j)).trans (h j hj)

theorem ahead_line {ch : Channel} {b : Bool} (h : (s.inputAt n).line ch = b) : (s.ahead n).line ch = b :=
  (congrArg (InputVec.line · ch) (ahead_input s n)).trans h

end run

section silence

variable {s : State}

/-- Without a reset the silence line moves down one place a step, whatever is armed behind (R18, R69). -/
theorem ahead_silAt {n k : Nat} (h : s.noResetFor n) (hk : 1 ≤ k) (hnk : n + k ≤ 200) :
    (s.ahead n).silAt k = s.silAt (n + k) := by
  induction n generalizing k with
  | zero => rw [Nat.zero_add]; rfl
  | succ n ih =>
    have hbefore := ih (fun j hj => h j (Nat.lt_succ_of_lt hj)) (k := k + 1) (by omega) (by omega)
    rw [ahead_succ, succ_toRegisters, next_silAt_of_le_199 _ (ahead_rst h n.lt_succ_self) k hk (by omega), hbefore]
    congr 1
    omega

end silence

section channel

variable {s : State} {ch : Channel}

/-- A channel whose counter is above 1 is not serviced (R58). -/
theorem confirmationServiced_of_two_le (hcount : 2 ≤ (s.dbCnt.get ch).toNat) : s.confirmationServiced ch = false :=
  Bool.eq_false_iff.2 fun hserviced => by
    have hdue := ((due_iff _ ch).1 (due_of_confirmationServiced hserviced)).2
    omega

theorem edgeAccepted_of_pending (hpending : s.isDebouncing.get ch = true) : s.edgeAccepted ch = false := by
  simp [edgeAccepted_eq, hpending]

/-- A pending channel with more than one step to go only counts (R16, R69). -/
theorem channel_next_of_waiting (hrst : s.rst = false) (hpending : s.isDebouncing.get ch = true)
    (hcount : 2 ≤ (s.dbCnt.get ch).toNat) : (s.toRegisters.next s.input).channel ch = (s.channel ch).tick := by
  simp [channel_next_eq, hrst, edgeAccepted_of_pending hpending, confirmationServiced_of_two_le hcount]

/-- The window that an accepted edge opens: after each of its 50 steps the channel is pending, and its counter tells the
steps to go (R73, R84). -/
theorem ahead_channel_of_edge (hedge : s.edgeAccepted ch = true) (h : s.noResetFor 51) {j : Nat} (hj : j < 50) :
    (s.ahead (j + 1)).isDebouncing.get ch = true ∧ (s.ahead (j + 1)).irqEn.get ch = false ∧
      ((s.ahead (j + 1)).dbCnt.get ch).toNat = 50 - j := by
  induction j with
  | zero =>
    have hrst : s.rst = false := h 0 (by omega)
    have hchannel : s.succ.channel ch = .armed := by rw [succ_toRegisters, channel_next_eq]; simp [hrst, hedge]
    obtain ⟨hpending, hirq, hcount⟩ := ChannelState.mk.inj hchannel
    exact ⟨hpending, hirq, congrArg BitVec.toNat hcount⟩
  | succ j ih =>
    obtain ⟨hpending, hirq, hcount⟩ := ih (by omega)
    have hchannel := channel_next_of_waiting (ahead_rst h (by omega)) hpending (by omega)
    obtain ⟨hpending', hirq', hcount'⟩ := ChannelState.mk.inj hchannel
    have hticked : (countDownDb true ((s.ahead (j + 1)).dbCnt.get ch)).toNat = 50 - (j + 1) := by
      rw [countDownDb_toNat, hcount]
      rfl
    rw [ahead_succ, succ_toRegisters, hpending', hirq', hcount']
    simp only [Registers.channel, hpending]
    exact ⟨trivial, hirq, hticked⟩

/-- A resting channel sees no edge and confirms no press (R57, R58). -/
theorem no_event_of_restsLow (h : s.restsLow ch) :
    s.selects (edgeOf ch) = false ∧ s.pressConfirmed ch = false := by
  obtain ⟨hidle, hprev⟩ := h
  have hserviced : s.confirmationServiced ch = false := Bool.eq_false_iff.2 fun hserviced => by
    simp [((due_iff _ ch).1 (due_of_confirmationServiced hserviced)).1] at hidle
  simp [selects_edgeOf_eq, edgeAccepted_eq, fall_eq, pressConfirmed_eq, hprev, hserviced]

/-- While its line stays low a resting channel rests (R72). -/
theorem next_restsLow (h : s.restsLow ch) (hline : s.line ch = false) :
    (s.toRegisters.next s.input).restsLow ch := by
  obtain ⟨hidle, hprev⟩ := h
  have hedge : s.edgeAccepted ch = false := by simp [edgeAccepted_eq, fall_eq, hprev]
  have hchannel := congrArg ChannelState.isDebouncing (channel_next_eq s ch)
  refine ⟨hchannel.trans ?_, ?_⟩
  · simp only [hedge, Bool.false_eq_true, if_false]
    split_ifs
    · rfl
    · rfl
    · exact hidle
  · rw [Registers.next_prevN]
    cases ch <;> exact hline

theorem ahead_restsLow {n : Nat} (h : s.restsLow ch) (hlow : ∀ j, j < n → (s.inputAt j).line ch = false) :
    (s.ahead n).restsLow ch := by
  induction n with
  | zero => exact h
  | succ n ih =>
    rw [ahead_succ, succ_toRegisters]
    exact next_restsLow (ih fun j hj => hlow j (Nat.lt_succ_of_lt hj)) (ahead_line (hlow n n.lt_succ_self))

theorem ahead_farFromPress {m n : Nat} (h : s.farFromPress ch m) : (s.ahead n).farFromPress ch (m - n) := by
  induction n with
  | zero => exact h
  | succ n ih => exact ahead_succ s n ▸ next_farFromPress ih

end channel

section blink

variable {s s' : State}

/-- What a step makes of the blink timer depends on the timer and on `rst` alone (R60, R69, R109). -/
theorem next_blink_congr (hrst : s.rst = s'.rst) (hcount : s.blinkCnt = s'.blinkCnt) (hled : s.statusLed = s'.statusLed) :
    s.succ.blinkCnt = s'.succ.blinkCnt ∧ s.succ.statusLed = s'.succ.statusLed := by
  have hblink : s.selects .blink = s'.selects .blink := by
    rw [selects_blink_eq, selects_blink_eq, Registers.blinkFires, Registers.blinkFires, hrst, hcount]
  simp only [succ_toRegisters, next_blinkCnt, next_statusLed, hrst, hcount, hled, hblink, and_self]

/-- `BLINK` is selected outside a reset where the counter is 1 (R60, R61). -/
theorem selects_blink_iff (hrst : s.rst = false) : s.selects .blink = decide (s.blinkCnt.toNat = 1) := by
  rw [selects_blink_eq, hrst, Bool.eq_iff_iff, decide_eq_true_iff, ← blinkFires_iff]
  rfl

/-- The blink timer's phase in the `n`-th step after a reset: its counter runs from 100 to 1 and the status output has been
inverted once for each full period (R109). -/
theorem ahead_blink_of_reset (hrst : s.rst = true) {n : Nat}
    (h : ∀ j, 1 ≤ j → j ≤ n → (s.inputAt j).rst = false) :
    (s.ahead (n + 1)).blinkCnt.toNat = 100 - n % 100 ∧ (s.ahead (n + 1)).statusLed = decide (n / 100 % 2 = 1) := by
  induction n with
  | zero =>
    have hreset : (s.ahead 1).toRegisters = .ofReset s.input := next_of_rst _ hrst
    rw [hreset]
    exact ⟨rfl, rfl⟩
  | succ n ih =>
    obtain ⟨hcount, hled⟩ := ih fun j hj hj' => h j hj (Nat.le_succ_of_le hj')
    have hnoRst : (s.ahead (n + 1)).rst = false :=
      (congrArg InputVec.rst (ahead_input s (n + 1))).trans (h (n + 1) (by omega) (by omega))
    have hblink := selects_blink_iff hnoRst
    rw [ahead_succ, succ_toRegisters, next_blinkCnt, next_statusLed, hblink, hnoRst, hled, apply_ite BitVec.toNat,
      countDownBlinkCount_toNat, hcount]
    by_cases hlast : n % 100 = 99
    · have hphase : (n + 1) % 100 = 0 ∧ (n + 1) / 100 = n / 100 + 1 := by omega
      simp only [hlast, hphase, Nat.succ_mod_two_eq_one_iff]
      rcases Nat.mod_two_eq_zero_or_one (n / 100) with hparity | hparity <;> simp [hparity]
    · have hphase : (n + 1) % 100 = n % 100 + 1 ∧ (n + 1) / 100 = n / 100 ∧ 1 < 100 - n % 100 := by omega
      have hnotLast : 100 - n % 100 ≠ 1 := by omega
      simp [hphase, hnotLast, Nat.sub_sub]

end blink

end Sys2Proof.Machine
end

section
/-! CERTIFICATE. The statements on runs of several steps. -/

namespace Sys2Proof.Machine

/-- Settles O45: the bit has moved down to place 1 when its step comes. -/
theorem silenceBitSaysWhenItsTimerFires : Obligations.SilenceBitSaysWhenItsTimerFires := by
  intro s k hk hk' hnoReset
  refine ⟨_, runSteps_eq_ahead s (k - 1), ?_⟩
  rw [Registers.silenceFires, ahead_silAt hnoReset (by decide) (by omega), Nat.sub_add_cancel hk]

/-- Settles O46: the press sets place 200, which is place 1 after 199 more steps. -/
theorem pressIsSilencedExactlyTwoHundredStepsLater : Obligations.PressIsSilencedExactlyTwoHundredStepsLater := by
  intro s hpress hnoReset
  have hrst : s.rst = false := by simpa [hpress] using not_rst_and_anyPress s
  have harmed : s.succ.silAt 200 = true := (next_silAt_last s).trans (by simp [hrst, hpress])
  have hlater : s.succ.noResetFor 199 := fun j hj => by
    rw [succ_inputAt]
    exact hnoReset (j + 1) (by omega)
  have hfires : (s.ahead 200).silAt 1 = true := by
    rw [ahead_succ_left, ahead_silAt hlater (by decide) (by decide)]
    exact harmed
  have hrst' : (s.ahead 200).rst = false := ahead_rst hnoReset (by decide)
  have hselected : (s.ahead 200).selects .silence = true := by
    rw [selects_silence_eq, hrst']
    exact hfires
  refine ⟨_, _, runSteps_eq_ahead s 200, hselected, step_eq_succ _, (Registers.next_toneStopStb ..).trans hselected,
    (next_toneOn _).trans ?_⟩
  simp [hrst', hselected]

/-- Settles O47: the channel counts through its window and is due at its end; the arbiter alone can hold it over. -/
theorem acceptedEdgeIsServicedFiftyStepsLater : Obligations.AcceptedEdgeIsServicedFiftyStepsLater := by
  intro s ch hedge hnoReset
  obtain ⟨hpending, hirq, hcount⟩ := ahead_channel_of_edge hedge hnoReset (j := 49) (by decide)
  have hrst : (s.ahead 50).rst = false := ahead_rst hnoReset (by decide)
  have hdue : (s.ahead 50).due ch = true := (due_iff _ ch).2 ⟨hpending, hcount.le⟩
  refine ⟨fun j hj hj' => ?window, s.ahead 50, _, runSteps_eq_ahead s 50, step_eq_succ _, fun h => ?service,
    fun h => ?heldOver⟩
  case window =>
    obtain ⟨m, rfl⟩ : ∃ m, j = m + 1 := ⟨j - 1, by omega⟩
    obtain ⟨hpending, hirq, hcount⟩ := ahead_channel_of_edge hedge hnoReset (j := m) (by omega)
    refine ⟨_, runSteps_eq_ahead s (m + 1), hpending, hirq, by omega, fun hm => ?_⟩
    exact (form_serviced _ ch).trans (confirmationServiced_of_two_le (by omega))
  case service =>
    have hserviced : (s.ahead 50).confirmationServiced ch = true := by
      cases ch
      case inc => exact hdue
      case dec => simp [Registers.confirmationServiced, hdue, h.resolve_left (by decide)]
    have hchannel : (s.ahead 50).succ.channel ch = .idle := by
      rw [succ_toRegisters, channel_next_eq]
      simp [hrst, edgeAccepted_of_pending hpending, hserviced]
    obtain ⟨hidle, hirqOn, -⟩ := ChannelState.mk.inj hchannel
    exact ⟨(form_serviced _ ch).trans hserviced, hidle, hirqOn⟩
  case heldOver =>
    obtain ⟨rfl, hincDue⟩ := h
    obtain ⟨-, hheld, u, hstep, -, hstill, -, -, hserviced, -⟩ :=
      arbiterServicesIncrementThenDecrement (s.ahead 50) hrst hincDue hdue
    rw [eq_succ_of_step hstep] at hstill hserviced
    obtain ⟨-, hirqOff, -⟩ := ChannelState.mk.inj (channel_next_of_both_due hrst hincDue hdue).2
    exact ⟨hheld, hstill, hirqOff.trans hirq, hserviced⟩

/-- Settles O48: a press leaves its channel 51 steps without a press, and each step takes one of them. -/
theorem confirmedPressesAreFiftyTwoStepsApart : Obligations.ConfirmedPressesAreFiftyTwoStepsApart := by
  intro s t ch n hn hpress hrun hpress'
  rw [eq_ahead_of_runSteps hrun] at hpress'
  obtain ⟨m, rfl⟩ : ∃ m, n = m + 1 := ⟨n - 1, by omega⟩
  have hfar : (s.ahead (m + 1)).farFromPress ch (51 - m) := by
    rw [ahead_succ_left]
    exact ahead_farFromPress (farFromPress_of_restsLow (next_restsLow_of_pressConfirmed hpress))
  by_contra hearly
  have hnone := confirmationServiced_of_farFromPress (by omega) hfar
  simp [(rst_and_serviced_of_pressConfirmed hpress').2] at hnone

/-- Settles O49: the press leaves its channel resting on the low line, and it rests as long as the line stays so. -/
theorem lineStuckLowGivesAtMostOnePress : Obligations.LineStuckLowGivesAtMostOnePress := by
  intro s ch n hn hpress hlow
  obtain ⟨m, rfl⟩ : ∃ m, n = m + 1 := ⟨n - 1, by omega⟩
  have hrests : (s.ahead (m + 1)).restsLow ch := by
    rw [ahead_succ_left]
    refine ahead_restsLow (next_restsLow_of_pressConfirmed hpress) fun j hj => ?_
    rw [succ_inputAt]
    exact hlow (j + 1) (by omega)
  obtain ⟨hedge, hnoPress⟩ := no_event_of_restsLow hrests
  exact ⟨_, runSteps_eq_ahead s (m + 1), hnoPress, hedge⟩

/-- Settles O53: a reset step on a low line leaves the channel resting on it. -/
theorem lineHeldLowThroughResetProducesNoEdge : Obligations.LineHeldLowThroughResetProducesNoEdge := by
  intro s ch n hrst hline hlow
  have hreset : s.succ.restsLow ch := by
    rw [succ_toRegisters, next_of_rst _ hrst]
    cases ch <;> exact ⟨rfl, hline⟩
  have hrests : (s.ahead (n + 1)).restsLow ch := by
    rw [ahead_succ_left]
    refine ahead_restsLow hreset fun j hj => ?_
    rw [succ_inputAt]
    exact (hlow (j + 1) (by omega) (by omega)).2
  exact ⟨_, runSteps_eq_ahead s (n + 1), hrests.1, hrests.2, no_event_of_restsLow hrests⟩

/-- Settles O50: with no timer behind it no `SILENCE` falls in the 199 steps after the press. -/
theorem toneLastsTwoHundredStepsWhenNoTimerIsPending : Obligations.ToneLastsTwoHundredStepsWhenNoTimerIsPending := by
  intro s hpress hnone hnoReset j hj hj'
  refine ⟨_, runSteps_eq_ahead s j, ?_⟩
  induction j, hj using Nat.le_induction with
  | base =>
    have hrst : s.rst = false := hnoReset 0 (by decide)
    exact (next_toneOn s).trans (by simp [hrst, hpress])
  | succ j hj ih =>
    have hsounding := ih (by omega)
    have hrst := ahead_rst hnoReset (j := j) (by omega)
    have hquiet : (s.ahead j).silAt 1 = false := by
      rw [ahead_silAt (fun i hi => hnoReset i (by omega)) (by decide) (by omega)]
      exact hnone (j + 1) (by omega) (by omega)
    rw [ahead_succ, succ_toRegisters, next_toneOn, selects_silence_eq, Registers.silenceFires, hquiet, hrst, hsounding]
    simp

/-- Settles O51: the blink counter's phase tells the steps in which it is 1. -/
theorem blinkTogglesEveryHundredSteps : Obligations.BlinkTogglesEveryHundredSteps := by
  intro s n hrst hnoReset
  obtain ⟨hcount, hled⟩ := ahead_blink_of_reset hrst hnoReset
  refine ⟨_, runSteps_eq_ahead s (n + 1), hled, fun hrst' => ?_⟩
  rw [selects_blink_iff hrst', hcount]
  exact decide_eq_decide.2 (by omega)

/-- Settles O52: the blink timer's next value is a function of itself and `rst`. -/
theorem blinkTimerIsIndependentOfEverythingElse : Obligations.BlinkTimerIsIndependentOfEverythingElse := by
  intro n s s' hcount hled hrst
  refine ⟨_, _, runSteps_eq_ahead s n, runSteps_eq_ahead s' n, ?_⟩
  induction n with
  | zero => exact ⟨hcount, hled⟩
  | succ n ih =>
    obtain ⟨hcount', hled'⟩ := ih fun j hj => hrst j (Nat.lt_succ_of_lt hj)
    rw [ahead_succ, ahead_succ]
    refine next_blink_congr ?_ hcount' hled'
    rw [State.rst, State.rst, ahead_input, ahead_input]
    exact hrst n n.lt_succ_self

end Sys2Proof.Machine
end
